-- ==== Sys2Proof/Word.lean ====
section
/-! DEFINITION. The word types of the machine: bytes, 64-bit words, register numbers
(00_scope.md R10, R18; 10_state.md R30). -/

namespace Sys2Proof

/-- A byte of memory (20_memory.md R81). -/
abbrev Byte := BitVec 8

/-- A doubleword: the width `GPRLEN` = 64 of a general register, of HI, LO, pc and npc
(00_scope.md R8). -/
abbrev Word := BitVec 64

/-- A 5-bit register field: rs, rt, rd, base, index, fs, ft, fr, fd (30_encoding.md R133). -/
abbrev RegNum := BitVec 5

end Sys2Proof
end

