-- ==== Sys2Proof/Syntax.lean ====
section
/-! DEFINITION. The instructions: one constructor per row of spec/opcode_table.json, its operands in
the order of the row's assembler format, then the fields the format does not name (code, stype). -/

namespace Sys2Proof

/-- An instruction word, decoded (30_encoding.md R137 to R146). Each docstring gives the assembler
form and the rule of spec/ that defines the instruction. -/
inductive Instr where
  /-- ADDI rt, rs, immediate (R261). -/
  | addi (rt rs : RegNum) (imm : BitVec 16)
  /-- ADDIU rt, rs, immediate (R262). -/
  | addiu (rt rs : RegNum) (imm : BitVec 16)
  /-- SLTI rt, rs, immediate (R263). -/
  | slti (rt rs : RegNum) (imm : BitVec 16)
  /-- SLTIU rt, rs, immediate (R264). -/
  | sltiu (rt rs : RegNum) (imm : BitVec 16)
  /-- ANDI rt, rs, immediate (R265). -/
  | andi (rt rs : RegNum) (imm : BitVec 16)
  /-- ORI rt, rs, immediate (R266). -/
  | ori (rt rs : RegNum) (imm : BitVec 16)
  /-- XORI rt, rs, immediate (R267). -/
  | xori (rt rs : RegNum) (imm : BitVec 16)
  /-- LUI rt, immediate (R268). -/
  | lui (rt : RegNum) (imm : BitVec 16)
  /-- DADDI rt, rs, immediate (R269). -/
  | daddi (rt rs : RegNum) (imm : BitVec 16)
  /-- DADDIU rt, rs, immediate (R270). -/
  | daddiu (rt rs : RegNum) (imm : BitVec 16)
  /-- LB rt, offset(base) (R202). -/
  | lb (rt : RegNum) (offset : BitVec 16) (base : RegNum)
  /-- LBU rt, offset(base) (R203). -/
  | lbu (rt : RegNum) (offset : BitVec 16) (base : RegNum)
  /-- LH rt, offset(base) (R204). -/
  | lh (rt : RegNum) (offset : BitVec 16) (base : RegNum)
  /-- LHU rt, offset(base) (R205). -/
  | lhu (rt : RegNum) (offset : BitVec 16) (base : RegNum)
  /-- LW rt, offset(base) (R206). -/
  | lw (rt : RegNum) (offset : BitVec 16) (base : RegNum)
  /-- LWU rt, offset(base) (R207). -/
  | lwu (rt : RegNum) (offset : BitVec 16) (base : RegNum)
  /-- LD rt, offset(base) (R208). -/
  | ld (rt : RegNum) (offset : BitVec 16) (base : RegNum)
  /-- SB rt, offset(base) (R209). -/
  | sb (rt : RegNum) (offset : BitVec 16) (base : RegNum)
  /-- SH rt, offset(base) (R210). -/
  | sh (rt : RegNum) (offset : BitVec 16) (base : RegNum)
  /-- SW rt, offset(base) (R211). -/
  | sw (rt : RegNum) (offset : BitVec 16) (base : RegNum)
  /-- SD rt, offset(base) (R212). -/
  | sd (rt : RegNum) (offset : BitVec 16) (base : RegNum)
  /-- LWL rt, offset(base) (R214). -/
  | lwl (rt : RegNum) (offset : BitVec 16) (base : RegNum)
  /-- LWR rt, offset(base) (R215). -/
  | lwr (rt : RegNum) (offset : BitVec 16) (base : RegNum)
  /-- SWL rt, offset(base) (R216). -/
  | swl (rt : RegNum) (offset : BitVec 16) (base : RegNum)
  /-- SWR rt, offset(base) (R217). -/
  | swr (rt : RegNum) (offset : BitVec 16) (base : RegNum)
  /-- LDL rt, offset(base) (R218). -/
  | ldl (rt : RegNum) (offset : BitVec 16) (base : RegNum)
  /-- LDR rt, offset(base) (R219). -/
  | ldr (rt : RegNum) (offset : BitVec 16) (base : RegNum)
  /-- SDL rt, offset(base) (R220). -/
  | sdl (rt : RegNum) (offset : BitVec 16) (base : RegNum)
  /-- SDR rt, offset(base) (R221). -/
  | sdr (rt : RegNum) (offset : BitVec 16) (base : RegNum)
  /-- LL rt, offset(base) (R222). -/
  | ll (rt : RegNum) (offset : BitVec 16) (base : RegNum)
  /-- LLD rt, offset(base) (R223). -/
  | lld (rt : RegNum) (offset : BitVec 16) (base : RegNum)
  /-- SC rt, offset(base) (R224). -/
  | sc (rt : RegNum) (offset : BitVec 16) (base : RegNum)
  /-- SCD rt, offset(base) (R225). -/
  | scd (rt : RegNum) (offset : BitVec 16) (base : RegNum)
  /-- LWC2 rt, offset(base) (R227). -/
  | lwc2 (rt : RegNum) (offset : BitVec 16) (base : RegNum)
  /-- LDC2 rt, offset(base) (R228). -/
  | ldc2 (rt : RegNum) (offset : BitVec 16) (base : RegNum)
  /-- SWC2 rt, offset(base) (R229). -/
  | swc2 (rt : RegNum) (offset : BitVec 16) (base : RegNum)
  /-- SDC2 rt, offset(base) (R230). -/
  | sdc2 (rt : RegNum) (offset : BitVec 16) (base : RegNum)
  /-- PREF hint, offset(base) (R399). -/
  | pref (hint : BitVec 5) (offset : BitVec 16) (base : RegNum)
  /-- LWC1 ft, offset(base) (R470). -/
  | lwc1 (ft : RegNum) (offset : BitVec 16) (base : RegNum)
  /-- LDC1 ft, offset(base) (R471). -/
  | ldc1 (ft : RegNum) (offset : BitVec 16) (base : RegNum)
  /-- SWC1 ft, offset(base) (R472). -/
  | swc1 (ft : RegNum) (offset : BitVec 16) (base : RegNum)
  /-- SDC1 ft, offset(base) (R473). -/
  | sdc1 (ft : RegNum) (offset : BitVec 16) (base : RegNum)
  /-- ADD rd, rs, rt (R271). -/
  | add (rd rs rt : RegNum)
  /-- ADDU rd, rs, rt (R272). -/
  | addu (rd rs rt : RegNum)
  /-- SUB rd, rs, rt (R273). -/
  | sub (rd rs rt : RegNum)
  /-- SUBU rd, rs, rt (R274). -/
  | subu (rd rs rt : RegNum)
  /-- AND rd, rs, rt (R281). -/
  | and (rd rs rt : RegNum)
  /-- OR rd, rs, rt (R282). -/
  | or (rd rs rt : RegNum)
  /-- XOR rd, rs, rt (R283). -/
  | xor (rd rs rt : RegNum)
  /-- NOR rd, rs, rt (R284). -/
  | nor (rd rs rt : RegNum)
  /-- SLT rd, rs, rt (R279). -/
  | slt (rd rs rt : RegNum)
  /-- SLTU rd, rs, rt (R280). -/
  | sltu (rd rs rt : RegNum)
  /-- DADD rd, rs, rt (R275). -/
  | dadd (rd rs rt : RegNum)
  /-- DADDU rd, rs, rt (R276). -/
  | daddu (rd rs rt : RegNum)
  /-- DSUB rd, rs, rt (R277). -/
  | dsub (rd rs rt : RegNum)
  /-- DSUBU rd, rs, rt (R278). -/
  | dsubu (rd rs rt : RegNum)
  /-- MOVZ rd, rs, rt (R396). -/
  | movz (rd rs rt : RegNum)
  /-- MOVN rd, rs, rt (R395). -/
  | movn (rd rs rt : RegNum)
  /-- SLL rd, rt, sa (R285). -/
  | sll (rd rt : RegNum) (sa : BitVec 5)
  /-- SRL rd, rt, sa (R286). -/
  | srl (rd rt : RegNum) (sa : BitVec 5)
  /-- SRA rd, rt, sa (R287). -/
  | sra (rd rt : RegNum) (sa : BitVec 5)
  /-- DSLL rd, rt, sa (R291). -/
  | dsll (rd rt : RegNum) (sa : BitVec 5)
  /-- DSRL rd, rt, sa (R292). -/
  | dsrl (rd rt : RegNum) (sa : BitVec 5)
  /-- DSRA rd, rt, sa (R293). -/
  | dsra (rd rt : RegNum) (sa : BitVec 5)
  /-- DSLL32 rd, rt, sa (R294). -/
  | dsll32 (rd rt : RegNum) (sa : BitVec 5)
  /-- DSRL32 rd, rt, sa (R295). -/
  | dsrl32 (rd rt : RegNum) (sa : BitVec 5)
  /-- DSRA32 rd, rt, sa (R296). -/
  | dsra32 (rd rt : RegNum) (sa : BitVec 5)
  /-- SLLV rd, rt, rs (R288). -/
  | sllv (rd rt rs : RegNum)
  /-- SRLV rd, rt, rs (R289). -/
  | srlv (rd rt rs : RegNum)
  /-- SRAV rd, rt, rs (R290). -/
  | srav (rd rt rs : RegNum)
  /-- DSLLV rd, rt, rs (R297). -/
  | dsllv (rd rt rs : RegNum)
  /-- DSRLV rd, rt, rs (R298). -/
  | dsrlv (rd rt rs : RegNum)
  /-- DSRAV rd, rt, rs (R299). -/
  | dsrav (rd rt rs : RegNum)
  /-- MULT rs, rt (R301). -/
  | mult (rs rt : RegNum)
  /-- MULTU rs, rt (R302). -/
  | multu (rs rt : RegNum)
  /-- DIV rs, rt (R303). -/
  | div (rs rt : RegNum)
  /-- DIVU rs, rt (R304). -/
  | divu (rs rt : RegNum)
  /-- DMULT rs, rt (R305). -/
  | dmult (rs rt : RegNum)
  /-- DMULTU rs, rt (R306). -/
  | dmultu (rs rt : RegNum)
  /-- DDIV rs, rt (R307). -/
  | ddiv (rs rt : RegNum)
  /-- DDIVU rs, rt (R308). -/
  | ddivu (rs rt : RegNum)
  /-- MFHI rd (R309). -/
  | mfhi (rd : RegNum)
  /-- MTHI rs (R311). -/
  | mthi (rs : RegNum)
  /-- MFLO rd (R310). -/
  | mflo (rd : RegNum)
  /-- MTLO rs (R312). -/
  | mtlo (rs : RegNum)
  /-- JR rs (R345). -/
  | jr (rs : RegNum)
  /-- JALR rd, rs (R346). -/
  | jalr (rd rs : RegNum)
  /-- SYSCALL (R380). -/
  | syscall (code : BitVec 20)
  /-- BREAK (R381). -/
  | brk (code : BitVec 20)
  /-- SYNC (R394). -/
  | sync (stype : BitVec 5)
  /-- TGE rs, rt (R382). -/
  | tge (rs rt : RegNum) (code : BitVec 10)
  /-- TGEU rs, rt (R383). -/
  | tgeu (rs rt : RegNum) (code : BitVec 10)
  /-- TLT rs, rt (R384). -/
  | tlt (rs rt : RegNum) (code : BitVec 10)
  /-- TLTU rs, rt (R385). -/
  | tltu (rs rt : RegNum) (code : BitVec 10)
  /-- TEQ rs, rt (R386). -/
  | teq (rs rt : RegNum) (code : BitVec 10)
  /-- TNE rs, rt (R387). -/
  | tne (rs rt : RegNum) (code : BitVec 10)
  /-- MOVF rd, rs, cc (R397). -/
  | movf (rd rs : RegNum) (cc : BitVec 3)
  /-- MOVT rd, rs, cc (R398). -/
  | movt (rd rs : RegNum) (cc : BitVec 3)
  /-- BLTZ rs, offset (R355). -/
  | bltz (rs : RegNum) (offset : BitVec 16)
  /-- BGEZ rs, offset (R356). -/
  | bgez (rs : RegNum) (offset : BitVec 16)
  /-- BLTZL rs, offset (R359). -/
  | bltzl (rs : RegNum) (offset : BitVec 16)
  /-- BGEZL rs, offset (R360). -/
  | bgezl (rs : RegNum) (offset : BitVec 16)
  /-- BLTZAL rs, offset (R357). -/
  | bltzal (rs : RegNum) (offset : BitVec 16)
  /-- BGEZAL rs, offset (R358). -/
  | bgezal (rs : RegNum) (offset : BitVec 16)
  /-- BLTZALL rs, offset (R361). -/
  | bltzall (rs : RegNum) (offset : BitVec 16)
  /-- BGEZALL rs, offset (R362). -/
  | bgezall (rs : RegNum) (offset : BitVec 16)
  /-- TGEI rs, immediate (R388). -/
  | tgei (rs : RegNum) (imm : BitVec 16)
  /-- TGEIU rs, immediate (R389). -/
  | tgeiu (rs : RegNum) (imm : BitVec 16)
  /-- TLTI rs, immediate (R390). -/
  | tlti (rs : RegNum) (imm : BitVec 16)
  /-- TLTIU rs, immediate (R391). -/
  | tltiu (rs : RegNum) (imm : BitVec 16)
  /-- TEQI rs, immediate (R392). -/
  | teqi (rs : RegNum) (imm : BitVec 16)
  /-- TNEI rs, immediate (R393). -/
  | tnei (rs : RegNum) (imm : BitVec 16)
  /-- J target (R343). -/
  | j (target : BitVec 26)
  /-- JAL target (R344). -/
  | jal (target : BitVec 26)
  /-- BEQ rs, rt, offset (R347). -/
  | beq (rs rt : RegNum) (offset : BitVec 16)
  /-- BNE rs, rt, offset (R348). -/
  | bne (rs rt : RegNum) (offset : BitVec 16)
  /-- BLEZ rs, offset (R349). -/
  | blez (rs : RegNum) (offset : BitVec 16)
  /-- BGTZ rs, offset (R350). -/
  | bgtz (rs : RegNum) (offset : BitVec 16)
  /-- BEQL rs, rt, offset (R351). -/
  | beql (rs rt : RegNum) (offset : BitVec 16)
  /-- BNEL rs, rt, offset (R352). -/
  | bnel (rs rt : RegNum) (offset : BitVec 16)
  /-- BLEZL rs, offset (R353). -/
  | blezl (rs : RegNum) (offset : BitVec 16)
  /-- BGTZL rs, offset (R354). -/
  | bgtzl (rs : RegNum) (offset : BitVec 16)
  /-- COP0 (R403). -/
  | cop0 (cofun : BitVec 26)
  /-- COP2 (R401). -/
  | cop2 (cofun : BitVec 26)
  /-- MFC1 rt, fs (R479). -/
  | mfc1 (rt fs : RegNum)
  /-- DMFC1 rt, fs (R481). -/
  | dmfc1 (rt fs : RegNum)
  /-- CFC1 rt, fs (R483). -/
  | cfc1 (rt fs : RegNum)
  /-- MTC1 rt, fs (R480). -/
  | mtc1 (rt fs : RegNum)
  /-- DMTC1 rt, fs (R482). -/
  | dmtc1 (rt fs : RegNum)
  /-- CTC1 rt, fs (R484). -/
  | ctc1 (rt fs : RegNum)
  /-- BC1F cc, offset (R580). -/
  | bc1f (cc : BitVec 3) (offset : BitVec 16)
  /-- BC1T cc, offset (R581). -/
  | bc1t (cc : BitVec 3) (offset : BitVec 16)
  /-- BC1FL cc, offset (R582). -/
  | bc1fl (cc : BitVec 3) (offset : BitVec 16)
  /-- BC1TL cc, offset (R583). -/
  | bc1tl (cc : BitVec 3) (offset : BitVec 16)
  /-- ADD.S fd, fs, ft (R500). -/
  | addS (fd fs ft : RegNum)
  /-- ADD.D fd, fs, ft (R500). -/
  | addD (fd fs ft : RegNum)
  /-- SUB.S fd, fs, ft (R501). -/
  | subS (fd fs ft : RegNum)
  /-- SUB.D fd, fs, ft (R501). -/
  | subD (fd fs ft : RegNum)
  /-- MUL.S fd, fs, ft (R502). -/
  | mulS (fd fs ft : RegNum)
  /-- MUL.D fd, fs, ft (R502). -/
  | mulD (fd fs ft : RegNum)
  /-- DIV.S fd, fs, ft (R503). -/
  | divS (fd fs ft : RegNum)
  /-- DIV.D fd, fs, ft (R503). -/
  | divD (fd fs ft : RegNum)
  /-- SQRT.S fd, fs (R504). -/
  | sqrtS (fd fs : RegNum)
  /-- SQRT.D fd, fs (R504). -/
  | sqrtD (fd fs : RegNum)
  /-- ABS.S fd, fs (R505). -/
  | absS (fd fs : RegNum)
  /-- ABS.D fd, fs (R505). -/
  | absD (fd fs : RegNum)
  /-- MOV.S fd, fs (R560). -/
  | movS (fd fs : RegNum)
  /-- MOV.D fd, fs (R560). -/
  | movD (fd fs : RegNum)
  /-- NEG.S fd, fs (R506). -/
  | negS (fd fs : RegNum)
  /-- NEG.D fd, fs (R506). -/
  | negD (fd fs : RegNum)
  /-- ROUND.L.S fd, fs (R548). -/
  | roundLS (fd fs : RegNum)
  /-- ROUND.L.D fd, fs (R548). -/
  | roundLD (fd fs : RegNum)
  /-- TRUNC.L.S fd, fs (R549). -/
  | truncLS (fd fs : RegNum)
  /-- TRUNC.L.D fd, fs (R549). -/
  | truncLD (fd fs : RegNum)
  /-- CEIL.L.S fd, fs (R550). -/
  | ceilLS (fd fs : RegNum)
  /-- CEIL.L.D fd, fs (R550). -/
  | ceilLD (fd fs : RegNum)
  /-- FLOOR.L.S fd, fs (R551). -/
  | floorLS (fd fs : RegNum)
  /-- FLOOR.L.D fd, fs (R551). -/
  | floorLD (fd fs : RegNum)
  /-- ROUND.W.S fd, fs (R544). -/
  | roundWS (fd fs : RegNum)
  /-- ROUND.W.D fd, fs (R544). -/
  | roundWD (fd fs : RegNum)
  /-- TRUNC.W.S fd, fs (R545). -/
  | truncWS (fd fs : RegNum)
  /-- TRUNC.W.D fd, fs (R545). -/
  | truncWD (fd fs : RegNum)
  /-- CEIL.W.S fd, fs (R546). -/
  | ceilWS (fd fs : RegNum)
  /-- CEIL.W.D fd, fs (R546). -/
  | ceilWD (fd fs : RegNum)
  /-- FLOOR.W.S fd, fs (R547). -/
  | floorWS (fd fs : RegNum)
  /-- FLOOR.W.D fd, fs (R547). -/
  | floorWD (fd fs : RegNum)
  /-- RECIP.S fd, fs (R507). -/
  | recipS (fd fs : RegNum)
  /-- RECIP.D fd, fs (R507). -/
  | recipD (fd fs : RegNum)
  /-- RSQRT.S fd, fs (R508). -/
  | rsqrtS (fd fs : RegNum)
  /-- RSQRT.D fd, fs (R508). -/
  | rsqrtD (fd fs : RegNum)
  /-- MOVF.S fd, fs, cc (R561). -/
  | movfS (fd fs : RegNum) (cc : BitVec 3)
  /-- MOVT.S fd, fs, cc (R562). -/
  | movtS (fd fs : RegNum) (cc : BitVec 3)
  /-- MOVZ.S fd, fs, rt (R564). -/
  | movzS (fd fs rt : RegNum)
  /-- MOVN.S fd, fs, rt (R563). -/
  | movnS (fd fs rt : RegNum)
  /-- MOVF.D fd, fs, cc (R561). -/
  | movfD (fd fs : RegNum) (cc : BitVec 3)
  /-- MOVT.D fd, fs, cc (R562). -/
  | movtD (fd fs : RegNum) (cc : BitVec 3)
  /-- MOVZ.D fd, fs, rt (R564). -/
  | movzD (fd fs rt : RegNum)
  /-- MOVN.D fd, fs, rt (R563). -/
  | movnD (fd fs rt : RegNum)
  /-- CVT.S.D fd, fs (R540). -/
  | cvtSD (fd fs : RegNum)
  /-- CVT.S.W fd, fs (R540). -/
  | cvtSW (fd fs : RegNum)
  /-- CVT.S.L fd, fs (R540). -/
  | cvtSL (fd fs : RegNum)
  /-- CVT.D.S fd, fs (R541). -/
  | cvtDS (fd fs : RegNum)
  /-- CVT.D.W fd, fs (R541). -/
  | cvtDW (fd fs : RegNum)
  /-- CVT.D.L fd, fs (R541). -/
  | cvtDL (fd fs : RegNum)
  /-- CVT.W.S fd, fs (R542). -/
  | cvtWS (fd fs : RegNum)
  /-- CVT.W.D fd, fs (R542). -/
  | cvtWD (fd fs : RegNum)
  /-- CVT.L.S fd, fs (R543). -/
  | cvtLS (fd fs : RegNum)
  /-- CVT.L.D fd, fs (R543). -/
  | cvtLD (fd fs : RegNum)
  /-- C.F.S cc, fs, ft (R514). -/
  | cFS (cc : BitVec 3) (fs ft : RegNum)
  /-- C.UN.S cc, fs, ft (R514). -/
  | cUnS (cc : BitVec 3) (fs ft : RegNum)
  /-- C.EQ.S cc, fs, ft (R514). -/
  | cEqS (cc : BitVec 3) (fs ft : RegNum)
  /-- C.UEQ.S cc, fs, ft (R514). -/
  | cUeqS (cc : BitVec 3) (fs ft : RegNum)
  /-- C.OLT.S cc, fs, ft (R514). -/
  | cOltS (cc : BitVec 3) (fs ft : RegNum)
  /-- C.ULT.S cc, fs, ft (R514). -/
  | cUltS (cc : BitVec 3) (fs ft : RegNum)
  /-- C.OLE.S cc, fs, ft (R514). -/
  | cOleS (cc : BitVec 3) (fs ft : RegNum)
  /-- C.ULE.S cc, fs, ft (R514). -/
  | cUleS (cc : BitVec 3) (fs ft : RegNum)
  /-- C.SF.S cc, fs, ft (R514). -/
  | cSfS (cc : BitVec 3) (fs ft : RegNum)
  /-- C.NGLE.S cc, fs, ft (R514). -/
  | cNgleS (cc : BitVec 3) (fs ft : RegNum)
  /-- C.SEQ.S cc, fs, ft (R514). -/
  | cSeqS (cc : BitVec 3) (fs ft : RegNum)
  /-- C.NGL.S cc, fs, ft (R514). -/
  | cNglS (cc : BitVec 3) (fs ft : RegNum)
  /-- C.LT.S cc, fs, ft (R514). -/
  | cLtS (cc : BitVec 3) (fs ft : RegNum)
  /-- C.NGE.S cc, fs, ft (R514). -/
  | cNgeS (cc : BitVec 3) (fs ft : RegNum)
  /-- C.LE.S cc, fs, ft (R514). -/
  | cLeS (cc : BitVec 3) (fs ft : RegNum)
  /-- C.NGT.S cc, fs, ft (R514). -/
  | cNgtS (cc : BitVec 3) (fs ft : RegNum)
  /-- C.F.D cc, fs, ft (R514). -/
  | cFD (cc : BitVec 3) (fs ft : RegNum)
  /-- C.UN.D cc, fs, ft (R514). -/
  | cUnD (cc : BitVec 3) (fs ft : RegNum)
  /-- C.EQ.D cc, fs, ft (R514). -/
  | cEqD (cc : BitVec 3) (fs ft : RegNum)
  /-- C.UEQ.D cc, fs, ft (R514). -/
  | cUeqD (cc : BitVec 3) (fs ft : RegNum)
  /-- C.OLT.D cc, fs, ft (R514). -/
  | cOltD (cc : BitVec 3) (fs ft : RegNum)
  /-- C.ULT.D cc, fs, ft (R514). -/
  | cUltD (cc : BitVec 3) (fs ft : RegNum)
  /-- C.OLE.D cc, fs, ft (R514). -/
  | cOleD (cc : BitVec 3) (fs ft : RegNum)
  /-- C.ULE.D cc, fs, ft (R514). -/
  | cUleD (cc : BitVec 3) (fs ft : RegNum)
  /-- C.SF.D cc, fs, ft (R514). -/
  | cSfD (cc : BitVec 3) (fs ft : RegNum)
  /-- C.NGLE.D cc, fs, ft (R514). -/
  | cNgleD (cc : BitVec 3) (fs ft : RegNum)
  /-- C.SEQ.D cc, fs, ft (R514). -/
  | cSeqD (cc : BitVec 3) (fs ft : RegNum)
  /-- C.NGL.D cc, fs, ft (R514). -/
  | cNglD (cc : BitVec 3) (fs ft : RegNum)
  /-- C.LT.D cc, fs, ft (R514). -/
  | cLtD (cc : BitVec 3) (fs ft : RegNum)
  /-- C.NGE.D cc, fs, ft (R514). -/
  | cNgeD (cc : BitVec 3) (fs ft : RegNum)
  /-- C.LE.D cc, fs, ft (R514). -/
  | cLeD (cc : BitVec 3) (fs ft : RegNum)
  /-- C.NGT.D cc, fs, ft (R514). -/
  | cNgtD (cc : BitVec 3) (fs ft : RegNum)
  /-- LWXC1 fd, index(base) (R474). -/
  | lwxc1 (fd index base : RegNum)
  /-- LDXC1 fd, index(base) (R475). -/
  | ldxc1 (fd index base : RegNum)
  /-- SWXC1 fs, index(base) (R476). -/
  | swxc1 (fs index base : RegNum)
  /-- SDXC1 fs, index(base) (R477). -/
  | sdxc1 (fs index base : RegNum)
  /-- PREFX hint, index(base) (R478). -/
  | prefx (hint : BitVec 5) (index base : RegNum)
  /-- MADD.S fd, fr, fs, ft (R509). -/
  | maddS (fd fr fs ft : RegNum)
  /-- MADD.D fd, fr, fs, ft (R509). -/
  | maddD (fd fr fs ft : RegNum)
  /-- MSUB.S fd, fr, fs, ft (R510). -/
  | msubS (fd fr fs ft : RegNum)
  /-- MSUB.D fd, fr, fs, ft (R510). -/
  | msubD (fd fr fs ft : RegNum)
  /-- NMADD.S fd, fr, fs, ft (R511). -/
  | nmaddS (fd fr fs ft : RegNum)
  /-- NMADD.D fd, fr, fs, ft (R511). -/
  | nmaddD (fd fr fs ft : RegNum)
  /-- NMSUB.S fd, fr, fs, ft (R512). -/
  | nmsubS (fd fr fs ft : RegNum)
  /-- NMSUB.D fd, fr, fs, ft (R512). -/
  | nmsubD (fd fr fs ft : RegNum)
  deriving DecidableEq, Repr

end Sys2Proof
end

