-- ==== Sys2Proof/Decode.lean ====
section
/-! DEFINITION. Decoding and encoding of instruction words, written from the opcode maps of
30_encoding.md R139 to R145 and the formats of R131 to R134. Decoding is total and rejects a word
that matches no row by the name of its class (R150, R151). -/

namespace Sys2Proof

/-- Why a word is no instruction. The machine turns each into an exception
(30_encoding.md R150, R151; 43_cpu_misc.md R402; log 23). -/
inductive DecodeError where
  /-- A reserved entry of the primary, SPECIAL or REGIMM map. -/
  | reserved
  /-- A must-be-zero field of a CPU instruction is not zero. -/
  | zeroField
  /-- A must-be-zero field of the MOVCI class (MOVF, MOVT) is not zero. -/
  | movciZeroField
  /-- A reserved entry of the COP1 or COP1X maps. -/
  | reservedFpu
  /-- A must-be-zero field of a COP1 or COP1X instruction is not zero. -/
  | fpuZeroField
  /-- Not exactly the four bytes of one word (30_encoding.md R130). -/
  | length
  deriving DecidableEq, Repr

/-! ### Fields of a word (30_encoding.md R133, R134) -/

/-- opcode, bits 31..26. -/
def opF (w : BitVec 32) : BitVec 6 := w.extractLsb' 26 6
/-- rs, base, fmt or fr, bits 25..21. -/
def rsF (w : BitVec 32) : BitVec 5 := w.extractLsb' 21 5
/-- rt, ft, index, hint or the REGIMM sub-opcode, bits 20..16. -/
def rtF (w : BitVec 32) : BitVec 5 := w.extractLsb' 16 5
/-- rd, fs or the PREFX hint, bits 15..11. -/
def rdF (w : BitVec 32) : BitVec 5 := w.extractLsb' 11 5
/-- sa, fd or stype, bits 10..6. -/
def saF (w : BitVec 32) : BitVec 5 := w.extractLsb' 6 5
/-- function, bits 5..0. -/
def fnF (w : BitVec 32) : BitVec 6 := w.extractLsb' 0 6
/-- immediate or offset, bits 15..0. -/
def immF (w : BitVec 32) : BitVec 16 := w.extractLsb' 0 16
/-- instr_index or cop_fun, bits 25..0. -/
def indexF (w : BitVec 32) : BitVec 26 := w.extractLsb' 0 26
/-- The code field of SYSCALL and BREAK, bits 25..6. -/
def code20F (w : BitVec 32) : BitVec 20 := w.extractLsb' 6 20
/-- The code field of the register traps, bits 15..6. -/
def code10F (w : BitVec 32) : BitVec 10 := w.extractLsb' 6 10
/-- cc of the branches and conditional moves, bits 20..18. -/
def ccHiF (w : BitVec 32) : BitVec 3 := w.extractLsb' 18 3
/-- cc of the compares, bits 10..8. -/
def ccLoF (w : BitVec 32) : BitVec 3 := w.extractLsb' 8 3
/-- nd and tf of the FPU branches, bits 17..16. -/
def ndTfF (w : BitVec 32) : BitVec 2 := w.extractLsb' 16 2
/-- tf of the conditional moves, bit 16. -/
def tfF (w : BitVec 32) : BitVec 1 := w.extractLsb' 16 1
/-- Whether the `len` bits from bit `lo` up are all zero. -/
def isZero (w : BitVec 32) (lo len : Nat) : Bool := w.extractLsb' lo len == 0

/-- Whether the low `k` bits of an offset field are zero (20_memory.md R95). -/
def lowZero (offset : BitVec 16) (k : Nat) : Bool := offset.extractLsb' 0 k == 0

/-! ### Decoding (30_encoding.md R137) -/

/-- An instruction with must-be-zero fields (30_encoding.md R151). -/
def zeroed (ok : Bool) (e : DecodeError) (i : Instr) : Except DecodeError Instr :=
  if ok then .ok i else .error e

/-- The SPECIAL class, by the function field (30_encoding.md R140). -/
def decodeSpecial (w : BitVec 32) : Except DecodeError Instr :=
  match fnF w with
  | 0x00#6 => zeroed (isZero w 21 5) .zeroField (.sll (rdF w) (rtF w) (saF w))
  | 0x01#6 => if tfF w = 0 then zeroed (isZero w 6 5 && isZero w 17 1) .movciZeroField (.movf (rdF w) (rsF w) (ccHiF w))
      else zeroed (isZero w 6 5 && isZero w 17 1) .movciZeroField (.movt (rdF w) (rsF w) (ccHiF w))
  | 0x02#6 => zeroed (isZero w 21 5) .zeroField (.srl (rdF w) (rtF w) (saF w))
  | 0x03#6 => zeroed (isZero w 21 5) .zeroField (.sra (rdF w) (rtF w) (saF w))
  | 0x04#6 => zeroed (isZero w 6 5) .zeroField (.sllv (rdF w) (rtF w) (rsF w))
  | 0x06#6 => zeroed (isZero w 6 5) .zeroField (.srlv (rdF w) (rtF w) (rsF w))
  | 0x07#6 => zeroed (isZero w 6 5) .zeroField (.srav (rdF w) (rtF w) (rsF w))
  | 0x08#6 => zeroed (isZero w 6 15) .zeroField (.jr (rsF w))
  | 0x09#6 => zeroed (isZero w 6 5 && isZero w 16 5) .zeroField (.jalr (rdF w) (rsF w))
  | 0x0a#6 => zeroed (isZero w 6 5) .zeroField (.movz (rdF w) (rsF w) (rtF w))
  | 0x0b#6 => zeroed (isZero w 6 5) .zeroField (.movn (rdF w) (rsF w) (rtF w))
  | 0x0c#6 => .ok (.syscall (code20F w))
  | 0x0d#6 => .ok (.brk (code20F w))
  | 0x0f#6 => zeroed (isZero w 11 15) .zeroField (.sync (saF w))
  | 0x10#6 => zeroed (isZero w 6 5 && isZero w 16 10) .zeroField (.mfhi (rdF w))
  | 0x11#6 => zeroed (isZero w 6 15) .zeroField (.mthi (rsF w))
  | 0x12#6 => zeroed (isZero w 6 5 && isZero w 16 10) .zeroField (.mflo (rdF w))
  | 0x13#6 => zeroed (isZero w 6 15) .zeroField (.mtlo (rsF w))
  | 0x14#6 => zeroed (isZero w 6 5) .zeroField (.dsllv (rdF w) (rtF w) (rsF w))
  | 0x16#6 => zeroed (isZero w 6 5) .zeroField (.dsrlv (rdF w) (rtF w) (rsF w))
  | 0x17#6 => zeroed (isZero w 6 5) .zeroField (.dsrav (rdF w) (rtF w) (rsF w))
  | 0x18#6 => zeroed (isZero w 6 10) .zeroField (.mult (rsF w) (rtF w))
  | 0x19#6 => zeroed (isZero w 6 10) .zeroField (.multu (rsF w) (rtF w))
  | 0x1a#6 => zeroed (isZero w 6 10) .zeroField (.div (rsF w) (rtF w))
  | 0x1b#6 => zeroed (isZero w 6 10) .zeroField (.divu (rsF w) (rtF w))
  | 0x1c#6 => zeroed (isZero w 6 10) .zeroField (.dmult (rsF w) (rtF w))
  | 0x1d#6 => zeroed (isZero w 6 10) .zeroField (.dmultu (rsF w) (rtF w))
  | 0x1e#6 => zeroed (isZero w 6 10) .zeroField (.ddiv (rsF w) (rtF w))
  | 0x1f#6 => zeroed (isZero w 6 10) .zeroField (.ddivu (rsF w) (rtF w))
  | 0x20#6 => zeroed (isZero w 6 5) .zeroField (.add (rdF w) (rsF w) (rtF w))
  | 0x21#6 => zeroed (isZero w 6 5) .zeroField (.addu (rdF w) (rsF w) (rtF w))
  | 0x22#6 => zeroed (isZero w 6 5) .zeroField (.sub (rdF w) (rsF w) (rtF w))
  | 0x23#6 => zeroed (isZero w 6 5) .zeroField (.subu (rdF w) (rsF w) (rtF w))
  | 0x24#6 => zeroed (isZero w 6 5) .zeroField (.and (rdF w) (rsF w) (rtF w))
  | 0x25#6 => zeroed (isZero w 6 5) .zeroField (.or (rdF w) (rsF w) (rtF w))
  | 0x26#6 => zeroed (isZero w 6 5) .zeroField (.xor (rdF w) (rsF w) (rtF w))
  | 0x27#6 => zeroed (isZero w 6 5) .zeroField (.nor (rdF w) (rsF w) (rtF w))
  | 0x2a#6 => zeroed (isZero w 6 5) .zeroField (.slt (rdF w) (rsF w) (rtF w))
  | 0x2b#6 => zeroed (isZero w 6 5) .zeroField (.sltu (rdF w) (rsF w) (rtF w))
  | 0x2c#6 => zeroed (isZero w 6 5) .zeroField (.dadd (rdF w) (rsF w) (rtF w))
  | 0x2d#6 => zeroed (isZero w 6 5) .zeroField (.daddu (rdF w) (rsF w) (rtF w))
  | 0x2e#6 => zeroed (isZero w 6 5) .zeroField (.dsub (rdF w) (rsF w) (rtF w))
  | 0x2f#6 => zeroed (isZero w 6 5) .zeroField (.dsubu (rdF w) (rsF w) (rtF w))
  | 0x30#6 => .ok (.tge (rsF w) (rtF w) (code10F w))
  | 0x31#6 => .ok (.tgeu (rsF w) (rtF w) (code10F w))
  | 0x32#6 => .ok (.tlt (rsF w) (rtF w) (code10F w))
  | 0x33#6 => .ok (.tltu (rsF w) (rtF w) (code10F w))
  | 0x34#6 => .ok (.teq (rsF w) (rtF w) (code10F w))
  | 0x36#6 => .ok (.tne (rsF w) (rtF w) (code10F w))
  | 0x38#6 => zeroed (isZero w 21 5) .zeroField (.dsll (rdF w) (rtF w) (saF w))
  | 0x3a#6 => zeroed (isZero w 21 5) .zeroField (.dsrl (rdF w) (rtF w) (saF w))
  | 0x3b#6 => zeroed (isZero w 21 5) .zeroField (.dsra (rdF w) (rtF w) (saF w))
  | 0x3c#6 => zeroed (isZero w 21 5) .zeroField (.dsll32 (rdF w) (rtF w) (saF w))
  | 0x3e#6 => zeroed (isZero w 21 5) .zeroField (.dsrl32 (rdF w) (rtF w) (saF w))
  | 0x3f#6 => zeroed (isZero w 21 5) .zeroField (.dsra32 (rdF w) (rtF w) (saF w))
  | _ => .error .reserved

/-- The REGIMM class, by the rt field (30_encoding.md R141). -/
def decodeRegimm (w : BitVec 32) : Except DecodeError Instr :=
  match rtF w with
  | 0x00#5 => .ok (.bltz (rsF w) (immF w))
  | 0x01#5 => .ok (.bgez (rsF w) (immF w))
  | 0x02#5 => .ok (.bltzl (rsF w) (immF w))
  | 0x03#5 => .ok (.bgezl (rsF w) (immF w))
  | 0x08#5 => .ok (.tgei (rsF w) (immF w))
  | 0x09#5 => .ok (.tgeiu (rsF w) (immF w))
  | 0x0a#5 => .ok (.tlti (rsF w) (immF w))
  | 0x0b#5 => .ok (.tltiu (rsF w) (immF w))
  | 0x0c#5 => .ok (.teqi (rsF w) (immF w))
  | 0x0e#5 => .ok (.tnei (rsF w) (immF w))
  | 0x10#5 => .ok (.bltzal (rsF w) (immF w))
  | 0x11#5 => .ok (.bgezal (rsF w) (immF w))
  | 0x12#5 => .ok (.bltzall (rsF w) (immF w))
  | 0x13#5 => .ok (.bgezall (rsF w) (immF w))
  | _ => .error .reserved

/-- The BC class, by the nd and tf fields (30_encoding.md R142). -/
def decodeBc (w : BitVec 32) : Except DecodeError Instr :=
  match ndTfF w with
  | 0#2 => .ok (.bc1f (ccHiF w) (immF w))
  | 1#2 => .ok (.bc1t (ccHiF w) (immF w))
  | 2#2 => .ok (.bc1fl (ccHiF w) (immF w))
  | 3#2 => .ok (.bc1tl (ccHiF w) (immF w))

/-- COP1 with fmt = S, by the function field (30_encoding.md R143). -/
def decodeFmtS (w : BitVec 32) : Except DecodeError Instr :=
  match fnF w with
  | 0x00#6 => .ok (.addS (saF w) (rdF w) (rtF w))
  | 0x01#6 => .ok (.subS (saF w) (rdF w) (rtF w))
  | 0x02#6 => .ok (.mulS (saF w) (rdF w) (rtF w))
  | 0x03#6 => .ok (.divS (saF w) (rdF w) (rtF w))
  | 0x04#6 => zeroed (isZero w 16 5) .fpuZeroField (.sqrtS (saF w) (rdF w))
  | 0x05#6 => zeroed (isZero w 16 5) .fpuZeroField (.absS (saF w) (rdF w))
  | 0x06#6 => zeroed (isZero w 16 5) .fpuZeroField (.movS (saF w) (rdF w))
  | 0x07#6 => zeroed (isZero w 16 5) .fpuZeroField (.negS (saF w) (rdF w))
  | 0x08#6 => zeroed (isZero w 16 5) .fpuZeroField (.roundLS (saF w) (rdF w))
  | 0x09#6 => zeroed (isZero w 16 5) .fpuZeroField (.truncLS (saF w) (rdF w))
  | 0x0a#6 => zeroed (isZero w 16 5) .fpuZeroField (.ceilLS (saF w) (rdF w))
  | 0x0b#6 => zeroed (isZero w 16 5) .fpuZeroField (.floorLS (saF w) (rdF w))
  | 0x0c#6 => zeroed (isZero w 16 5) .fpuZeroField (.roundWS (saF w) (rdF w))
  | 0x0d#6 => zeroed (isZero w 16 5) .fpuZeroField (.truncWS (saF w) (rdF w))
  | 0x0e#6 => zeroed (isZero w 16 5) .fpuZeroField (.ceilWS (saF w) (rdF w))
  | 0x0f#6 => zeroed (isZero w 16 5) .fpuZeroField (.floorWS (saF w) (rdF w))
  | 0x11#6 => if tfF w = 0 then zeroed (isZero w 17 1) .fpuZeroField (.movfS (saF w) (rdF w) (ccHiF w))
      else zeroed (isZero w 17 1) .fpuZeroField (.movtS (saF w) (rdF w) (ccHiF w))
  | 0x12#6 => .ok (.movzS (saF w) (rdF w) (rtF w))
  | 0x13#6 => .ok (.movnS (saF w) (rdF w) (rtF w))
  | 0x15#6 => zeroed (isZero w 16 5) .fpuZeroField (.recipS (saF w) (rdF w))
  | 0x16#6 => zeroed (isZero w 16 5) .fpuZeroField (.rsqrtS (saF w) (rdF w))
  | 0x21#6 => zeroed (isZero w 16 5) .fpuZeroField (.cvtDS (saF w) (rdF w))
  | 0x24#6 => zeroed (isZero w 16 5) .fpuZeroField (.cvtWS (saF w) (rdF w))
  | 0x25#6 => zeroed (isZero w 16 5) .fpuZeroField (.cvtLS (saF w) (rdF w))
  | 0x30#6 => zeroed (isZero w 6 2) .fpuZeroField (.cFS (ccLoF w) (rdF w) (rtF w))
  | 0x31#6 => zeroed (isZero w 6 2) .fpuZeroField (.cUnS (ccLoF w) (rdF w) (rtF w))
  | 0x32#6 => zeroed (isZero w 6 2) .fpuZeroField (.cEqS (ccLoF w) (rdF w) (rtF w))
  | 0x33#6 => zeroed (isZero w 6 2) .fpuZeroField (.cUeqS (ccLoF w) (rdF w) (rtF w))
  | 0x34#6 => zeroed (isZero w 6 2) .fpuZeroField (.cOltS (ccLoF w) (rdF w) (rtF w))
  | 0x35#6 => zeroed (isZero w 6 2) .fpuZeroField (.cUltS (ccLoF w) (rdF w) (rtF w))
  | 0x36#6 => zeroed (isZero w 6 2) .fpuZeroField (.cOleS (ccLoF w) (rdF w) (rtF w))
  | 0x37#6 => zeroed (isZero w 6 2) .fpuZeroField (.cUleS (ccLoF w) (rdF w) (rtF w))
  | 0x38#6 => zeroed (isZero w 6 2) .fpuZeroField (.cSfS (ccLoF w) (rdF w) (rtF w))
  | 0x39#6 => zeroed (isZero w 6 2) .fpuZeroField (.cNgleS (ccLoF w) (rdF w) (rtF w))
  | 0x3a#6 => zeroed (isZero w 6 2) .fpuZeroField (.cSeqS (ccLoF w) (rdF w) (rtF w))
  | 0x3b#6 => zeroed (isZero w 6 2) .fpuZeroField (.cNglS (ccLoF w) (rdF w) (rtF w))
  | 0x3c#6 => zeroed (isZero w 6 2) .fpuZeroField (.cLtS (ccLoF w) (rdF w) (rtF w))
  | 0x3d#6 => zeroed (isZero w 6 2) .fpuZeroField (.cNgeS (ccLoF w) (rdF w) (rtF w))
  | 0x3e#6 => zeroed (isZero w 6 2) .fpuZeroField (.cLeS (ccLoF w) (rdF w) (rtF w))
  | 0x3f#6 => zeroed (isZero w 6 2) .fpuZeroField (.cNgtS (ccLoF w) (rdF w) (rtF w))
  | _ => .error .reservedFpu

/-- COP1 with fmt = D, by the function field (30_encoding.md R143). -/
def decodeFmtD (w : BitVec 32) : Except DecodeError Instr :=
  match fnF w with
  | 0x00#6 => .ok (.addD (saF w) (rdF w) (rtF w))
  | 0x01#6 => .ok (.subD (saF w) (rdF w) (rtF w))
  | 0x02#6 => .ok (.mulD (saF w) (rdF w) (rtF w))
  | 0x03#6 => .ok (.divD (saF w) (rdF w) (rtF w))
  | 0x04#6 => zeroed (isZero w 16 5) .fpuZeroField (.sqrtD (saF w) (rdF w))
  | 0x05#6 => zeroed (isZero w 16 5) .fpuZeroField (.absD (saF w) (rdF w))
  | 0x06#6 => zeroed (isZero w 16 5) .fpuZeroField (.movD (saF w) (rdF w))
  | 0x07#6 => zeroed (isZero w 16 5) .fpuZeroField (.negD (saF w) (rdF w))
  | 0x08#6 => zeroed (isZero w 16 5) .fpuZeroField (.roundLD (saF w) (rdF w))
  | 0x09#6 => zeroed (isZero w 16 5) .fpuZeroField (.truncLD (saF w) (rdF w))
  | 0x0a#6 => zeroed (isZero w 16 5) .fpuZeroField (.ceilLD (saF w) (rdF w))
  | 0x0b#6 => zeroed (isZero w 16 5) .fpuZeroField (.floorLD (saF w) (rdF w))
  | 0x0c#6 => zeroed (isZero w 16 5) .fpuZeroField (.roundWD (saF w) (rdF w))
  | 0x0d#6 => zeroed (isZero w 16 5) .fpuZeroField (.truncWD (saF w) (rdF w))
  | 0x0e#6 => zeroed (isZero w 16 5) .fpuZeroField (.ceilWD (saF w) (rdF w))
  | 0x0f#6 => zeroed (isZero w 16 5) .fpuZeroField (.floorWD (saF w) (rdF w))
  | 0x11#6 => if tfF w = 0 then zeroed (isZero w 17 1) .fpuZeroField (.movfD (saF w) (rdF w) (ccHiF w))
      else zeroed (isZero w 17 1) .fpuZeroField (.movtD (saF w) (rdF w) (ccHiF w))
  | 0x12#6 => .ok (.movzD (saF w) (rdF w) (rtF w))
  | 0x13#6 => .ok (.movnD (saF w) (rdF w) (rtF w))
  | 0x15#6 => zeroed (isZero w 16 5) .fpuZeroField (.recipD (saF w) (rdF w))
  | 0x16#6 => zeroed (isZero w 16 5) .fpuZeroField (.rsqrtD (saF w) (rdF w))
  | 0x20#6 => zeroed (isZero w 16 5) .fpuZeroField (.cvtSD (saF w) (rdF w))
  | 0x24#6 => zeroed (isZero w 16 5) .fpuZeroField (.cvtWD (saF w) (rdF w))
  | 0x25#6 => zeroed (isZero w 16 5) .fpuZeroField (.cvtLD (saF w) (rdF w))
  | 0x30#6 => zeroed (isZero w 6 2) .fpuZeroField (.cFD (ccLoF w) (rdF w) (rtF w))
  | 0x31#6 => zeroed (isZero w 6 2) .fpuZeroField (.cUnD (ccLoF w) (rdF w) (rtF w))
  | 0x32#6 => zeroed (isZero w 6 2) .fpuZeroField (.cEqD (ccLoF w) (rdF w) (rtF w))
  | 0x33#6 => zeroed (isZero w 6 2) .fpuZeroField (.cUeqD (ccLoF w) (rdF w) (rtF w))
  | 0x34#6 => zeroed (isZero w 6 2) .fpuZeroField (.cOltD (ccLoF w) (rdF w) (rtF w))
  | 0x35#6 => zeroed (isZero w 6 2) .fpuZeroField (.cUltD (ccLoF w) (rdF w) (rtF w))
  | 0x36#6 => zeroed (isZero w 6 2) .fpuZeroField (.cOleD (ccLoF w) (rdF w) (rtF w))
  | 0x37#6 => zeroed (isZero w 6 2) .fpuZeroField (.cUleD (ccLoF w) (rdF w) (rtF w))
  | 0x38#6 => zeroed (isZero w 6 2) .fpuZeroField (.cSfD (ccLoF w) (rdF w) (rtF w))
  | 0x39#6 => zeroed (isZero w 6 2) .fpuZeroField (.cNgleD (ccLoF w) (rdF w) (rtF w))
  | 0x3a#6 => zeroed (isZero w 6 2) .fpuZeroField (.cSeqD (ccLoF w) (rdF w) (rtF w))
  | 0x3b#6 => zeroed (isZero w 6 2) .fpuZeroField (.cNglD (ccLoF w) (rdF w) (rtF w))
  | 0x3c#6 => zeroed (isZero w 6 2) .fpuZeroField (.cLtD (ccLoF w) (rdF w) (rtF w))
  | 0x3d#6 => zeroed (isZero w 6 2) .fpuZeroField (.cNgeD (ccLoF w) (rdF w) (rtF w))
  | 0x3e#6 => zeroed (isZero w 6 2) .fpuZeroField (.cLeD (ccLoF w) (rdF w) (rtF w))
  | 0x3f#6 => zeroed (isZero w 6 2) .fpuZeroField (.cNgtD (ccLoF w) (rdF w) (rtF w))
  | _ => .error .reservedFpu

/-- COP1 with fmt = W, by the function field (30_encoding.md R144). -/
def decodeFmtW (w : BitVec 32) : Except DecodeError Instr :=
  match fnF w with
  | 0x20#6 => zeroed (isZero w 16 5) .fpuZeroField (.cvtSW (saF w) (rdF w))
  | 0x21#6 => zeroed (isZero w 16 5) .fpuZeroField (.cvtDW (saF w) (rdF w))
  | _ => .error .reservedFpu

/-- COP1 with fmt = L, by the function field (30_encoding.md R144). -/
def decodeFmtL (w : BitVec 32) : Except DecodeError Instr :=
  match fnF w with
  | 0x20#6 => zeroed (isZero w 16 5) .fpuZeroField (.cvtSL (saF w) (rdF w))
  | 0x21#6 => zeroed (isZero w 16 5) .fpuZeroField (.cvtDL (saF w) (rdF w))
  | _ => .error .reservedFpu

/-- The COP1 class, by the fmt field (30_encoding.md R142). -/
def decodeCop1 (w : BitVec 32) : Except DecodeError Instr :=
  match rsF w with
  | 0x00#5 => zeroed (isZero w 0 11) .fpuZeroField (.mfc1 (rtF w) (rdF w))
  | 0x01#5 => zeroed (isZero w 0 11) .fpuZeroField (.dmfc1 (rtF w) (rdF w))
  | 0x02#5 => zeroed (isZero w 0 11) .fpuZeroField (.cfc1 (rtF w) (rdF w))
  | 0x04#5 => zeroed (isZero w 0 11) .fpuZeroField (.mtc1 (rtF w) (rdF w))
  | 0x05#5 => zeroed (isZero w 0 11) .fpuZeroField (.dmtc1 (rtF w) (rdF w))
  | 0x06#5 => zeroed (isZero w 0 11) .fpuZeroField (.ctc1 (rtF w) (rdF w))
  | 0x08#5 => decodeBc w
  | 0x10#5 => decodeFmtS w
  | 0x11#5 => decodeFmtD w
  | 0x14#5 => decodeFmtW w
  | 0x15#5 => decodeFmtL w
  | _ => .error .reservedFpu

/-- The COP1X class, by the function field (30_encoding.md R145). -/
def decodeCop1x (w : BitVec 32) : Except DecodeError Instr :=
  match fnF w with
  | 0x00#6 => zeroed (isZero w 11 5) .fpuZeroField (.lwxc1 (saF w) (rtF w) (rsF w))
  | 0x01#6 => zeroed (isZero w 11 5) .fpuZeroField (.ldxc1 (saF w) (rtF w) (rsF w))
  | 0x08#6 => zeroed (isZero w 6 5) .fpuZeroField (.swxc1 (rdF w) (rtF w) (rsF w))
  | 0x09#6 => zeroed (isZero w 6 5) .fpuZeroField (.sdxc1 (rdF w) (rtF w) (rsF w))
  | 0x0f#6 => zeroed (isZero w 6 5) .fpuZeroField (.prefx (rdF w) (rtF w) (rsF w))
  | 0x20#6 => .ok (.maddS (saF w) (rsF w) (rdF w) (rtF w))
  | 0x21#6 => .ok (.maddD (saF w) (rsF w) (rdF w) (rtF w))
  | 0x28#6 => .ok (.msubS (saF w) (rsF w) (rdF w) (rtF w))
  | 0x29#6 => .ok (.msubD (saF w) (rsF w) (rdF w) (rtF w))
  | 0x30#6 => .ok (.nmaddS (saF w) (rsF w) (rdF w) (rtF w))
  | 0x31#6 => .ok (.nmaddD (saF w) (rsF w) (rdF w) (rtF w))
  | 0x38#6 => .ok (.nmsubS (saF w) (rsF w) (rdF w) (rtF w))
  | 0x39#6 => .ok (.nmsubD (saF w) (rsF w) (rdF w) (rtF w))
  | _ => .error .reservedFpu

/-- A word, by the primary opcode (30_encoding.md R139). -/
def decode (w : BitVec 32) : Except DecodeError Instr :=
  match opF w with
  | 0x00#6 => decodeSpecial w
  | 0x01#6 => decodeRegimm w
  | 0x02#6 => .ok (.j (indexF w))
  | 0x03#6 => .ok (.jal (indexF w))
  | 0x04#6 => .ok (.beq (rsF w) (rtF w) (immF w))
  | 0x05#6 => .ok (.bne (rsF w) (rtF w) (immF w))
  | 0x06#6 => zeroed (isZero w 16 5) .zeroField (.blez (rsF w) (immF w))
  | 0x07#6 => zeroed (isZero w 16 5) .zeroField (.bgtz (rsF w) (immF w))
  | 0x08#6 => .ok (.addi (rtF w) (rsF w) (immF w))
  | 0x09#6 => .ok (.addiu (rtF w) (rsF w) (immF w))
  | 0x0a#6 => .ok (.slti (rtF w) (rsF w) (immF w))
  | 0x0b#6 => .ok (.sltiu (rtF w) (rsF w) (immF w))
  | 0x0c#6 => .ok (.andi (rtF w) (rsF w) (immF w))
  | 0x0d#6 => .ok (.ori (rtF w) (rsF w) (immF w))
  | 0x0e#6 => .ok (.xori (rtF w) (rsF w) (immF w))
  | 0x0f#6 => zeroed (isZero w 21 5) .zeroField (.lui (rtF w) (immF w))
  | 0x10#6 => .ok (.cop0 (indexF w))
  | 0x11#6 => decodeCop1 w
  | 0x12#6 => .ok (.cop2 (indexF w))
  | 0x13#6 => decodeCop1x w
  | 0x14#6 => .ok (.beql (rsF w) (rtF w) (immF w))
  | 0x15#6 => .ok (.bnel (rsF w) (rtF w) (immF w))
  | 0x16#6 => zeroed (isZero w 16 5) .zeroField (.blezl (rsF w) (immF w))
  | 0x17#6 => zeroed (isZero w 16 5) .zeroField (.bgtzl (rsF w) (immF w))
  | 0x18#6 => .ok (.daddi (rtF w) (rsF w) (immF w))
  | 0x19#6 => .ok (.daddiu (rtF w) (rsF w) (immF w))
  | 0x1a#6 => .ok (.ldl (rtF w) (immF w) (rsF w))
  | 0x1b#6 => .ok (.ldr (rtF w) (immF w) (rsF w))
  | 0x20#6 => .ok (.lb (rtF w) (immF w) (rsF w))
  | 0x21#6 => .ok (.lh (rtF w) (immF w) (rsF w))
  | 0x22#6 => .ok (.lwl (rtF w) (immF w) (rsF w))
  | 0x23#6 => .ok (.lw (rtF w) (immF w) (rsF w))
  | 0x24#6 => .ok (.lbu (rtF w) (immF w) (rsF w))
  | 0x25#6 => .ok (.lhu (rtF w) (immF w) (rsF w))
  | 0x26#6 => .ok (.lwr (rtF w) (immF w) (rsF w))
  | 0x27#6 => .ok (.lwu (rtF w) (immF w) (rsF w))
  | 0x28#6 => .ok (.sb (rtF w) (immF w) (rsF w))
  | 0x29#6 => .ok (.sh (rtF w) (immF w) (rsF w))
  | 0x2a#6 => .ok (.swl (rtF w) (immF w) (rsF w))
  | 0x2b#6 => .ok (.sw (rtF w) (immF w) (rsF w))
  | 0x2c#6 => .ok (.sdl (rtF w) (immF w) (rsF w))
  | 0x2d#6 => .ok (.sdr (rtF w) (immF w) (rsF w))
  | 0x2e#6 => .ok (.swr (rtF w) (immF w) (rsF w))
  | 0x30#6 => .ok (.ll (rtF w) (immF w) (rsF w))
  | 0x31#6 => .ok (.lwc1 (rtF w) (immF w) (rsF w))
  | 0x32#6 => .ok (.lwc2 (rtF w) (immF w) (rsF w))
  | 0x33#6 => .ok (.pref (rtF w) (immF w) (rsF w))
  | 0x34#6 => .ok (.lld (rtF w) (immF w) (rsF w))
  | 0x35#6 => .ok (.ldc1 (rtF w) (immF w) (rsF w))
  | 0x36#6 => .ok (.ldc2 (rtF w) (immF w) (rsF w))
  | 0x37#6 => .ok (.ld (rtF w) (immF w) (rsF w))
  | 0x38#6 => .ok (.sc (rtF w) (immF w) (rsF w))
  | 0x39#6 => .ok (.swc1 (rtF w) (immF w) (rsF w))
  | 0x3a#6 => .ok (.swc2 (rtF w) (immF w) (rsF w))
  | 0x3c#6 => .ok (.scd (rtF w) (immF w) (rsF w))
  | 0x3d#6 => .ok (.sdc1 (rtF w) (immF w) (rsF w))
  | 0x3e#6 => .ok (.sdc2 (rtF w) (immF w) (rsF w))
  | 0x3f#6 => .ok (.sd (rtF w) (immF w) (rsF w))
  | _ => .error .reserved

/-- The word of four bytes in address order (20_memory.md R84, R98): the first byte most significant
when `big`. -/
def wordOfBytes (big : Bool) (b0 b1 b2 b3 : Byte) : BitVec 32 :=
  if big then b0 ++ b1 ++ b2 ++ b3 else b3 ++ b2 ++ b1 ++ b0

/-- Decode the bytes of one instruction in address order; total on any list of bytes
(30_encoding.md R130). -/
def decodeBytes (big : Bool) : List Byte → Except DecodeError Instr
  | [b0, b1, b2, b3] => decode (wordOfBytes big b0 b1 b2 b3)
  | _ => .error .length

/-- The four bytes of a word in address order (20_memory.md R84). -/
def bytesOfWord (big : Bool) (w : BitVec 32) : List Byte :=
  let l := [w.extractLsb' 0 8, w.extractLsb' 8 8, w.extractLsb' 16 8, w.extractLsb' 24 8]
  if big then l.reverse else l

/-- The host's question: the instruction read from a table word of `nbits` bits, laid out in memory
in the byte order of the machine at reset (big-endian, log 2). -/
def decodeTableWord (nbits w : Nat) : Option Instr :=
  (decodeBytes true (bytesOfWord true (BitVec.ofNat 32 (w % 2 ^ nbits)))).toOption

/-! ### Encoding: the formats (30_encoding.md R131, R132, R134) -/

/-- Immediate format: opcode 6, two register fields, immediate 16. -/
def iForm (op : BitVec 6) (a b : BitVec 5) (imm : BitVec 16) : BitVec 32 := op ++ a ++ b ++ imm
/-- Register format: opcode 6, four 5-bit fields, function 6. -/
def rForm (op : BitVec 6) (a b c d : BitVec 5) (fn : BitVec 6) : BitVec 32 :=
  op ++ a ++ b ++ c ++ d ++ fn
/-- Jump format: opcode 6, instr_index 26. -/
def jForm (op : BitVec 6) (target : BitVec 26) : BitVec 32 := op ++ target
/-- SYSCALL and BREAK: opcode 6, code 20, function 6. -/
def cForm (op : BitVec 6) (code : BitVec 20) (fn : BitVec 6) : BitVec 32 := op ++ code ++ fn
/-- Register traps: opcode 6, rs, rt, code 10, function 6. -/
def tForm (op : BitVec 6) (a b : BitVec 5) (code : BitVec 10) (fn : BitVec 6) : BitVec 32 :=
  op ++ a ++ b ++ code ++ fn

/-- The word of an instruction (30_encoding.md R139 to R145; every must-be-zero field is 0). -/
def encode : Instr → BitVec 32
  | .addi rt rs imm => iForm 0x08#6 rs rt imm
  | .addiu rt rs imm => iForm 0x09#6 rs rt imm
  | .slti rt rs imm => iForm 0x0a#6 rs rt imm
  | .sltiu rt rs imm => iForm 0x0b#6 rs rt imm
  | .andi rt rs imm => iForm 0x0c#6 rs rt imm
  | .ori rt rs imm => iForm 0x0d#6 rs rt imm
  | .xori rt rs imm => iForm 0x0e#6 rs rt imm
  | .lui rt imm => iForm 0x0f#6 0x00#5 rt imm
  | .daddi rt rs imm => iForm 0x18#6 rs rt imm
  | .daddiu rt rs imm => iForm 0x19#6 rs rt imm
  | .lb rt offset base => iForm 0x20#6 base rt offset
  | .lbu rt offset base => iForm 0x24#6 base rt offset
  | .lh rt offset base => iForm 0x21#6 base rt offset
  | .lhu rt offset base => iForm 0x25#6 base rt offset
  | .lw rt offset base => iForm 0x23#6 base rt offset
  | .lwu rt offset base => iForm 0x27#6 base rt offset
  | .ld rt offset base => iForm 0x37#6 base rt offset
  | .sb rt offset base => iForm 0x28#6 base rt offset
  | .sh rt offset base => iForm 0x29#6 base rt offset
  | .sw rt offset base => iForm 0x2b#6 base rt offset
  | .sd rt offset base => iForm 0x3f#6 base rt offset
  | .lwl rt offset base => iForm 0x22#6 base rt offset
  | .lwr rt offset base => iForm 0x26#6 base rt offset
  | .swl rt offset base => iForm 0x2a#6 base rt offset
  | .swr rt offset base => iForm 0x2e#6 base rt offset
  | .ldl rt offset base => iForm 0x1a#6 base rt offset
  | .ldr rt offset base => iForm 0x1b#6 base rt offset
  | .sdl rt offset base => iForm 0x2c#6 base rt offset
  | .sdr rt offset base => iForm 0x2d#6 base rt offset
  | .ll rt offset base => iForm 0x30#6 base rt offset
  | .lld rt offset base => iForm 0x34#6 base rt offset
  | .sc rt offset base => iForm 0x38#6 base rt offset
  | .scd rt offset base => iForm 0x3c#6 base rt offset
  | .lwc2 rt offset base => iForm 0x32#6 base rt offset
  | .ldc2 rt offset base => iForm 0x36#6 base rt offset
  | .swc2 rt offset base => iForm 0x3a#6 base rt offset
  | .sdc2 rt offset base => iForm 0x3e#6 base rt offset
  | .pref hint offset base => iForm 0x33#6 base hint offset
  | .lwc1 ft offset base => iForm 0x31#6 base ft offset
  | .ldc1 ft offset base => iForm 0x35#6 base ft offset
  | .swc1 ft offset base => iForm 0x39#6 base ft offset
  | .sdc1 ft offset base => iForm 0x3d#6 base ft offset
  | .add rd rs rt => rForm 0x00#6 rs rt rd 0x00#5 0x20#6
  | .addu rd rs rt => rForm 0x00#6 rs rt rd 0x00#5 0x21#6
  | .sub rd rs rt => rForm 0x00#6 rs rt rd 0x00#5 0x22#6
  | .subu rd rs rt => rForm 0x00#6 rs rt rd 0x00#5 0x23#6
  | .and rd rs rt => rForm 0x00#6 rs rt rd 0x00#5 0x24#6
  | .or rd rs rt => rForm 0x00#6 rs rt rd 0x00#5 0x25#6
  | .xor rd rs rt => rForm 0x00#6 rs rt rd 0x00#5 0x26#6
  | .nor rd rs rt => rForm 0x00#6 rs rt rd 0x00#5 0x27#6
  | .slt rd rs rt => rForm 0x00#6 rs rt rd 0x00#5 0x2a#6
  | .sltu rd rs rt => rForm 0x00#6 rs rt rd 0x00#5 0x2b#6
  | .dadd rd rs rt => rForm 0x00#6 rs rt rd 0x00#5 0x2c#6
  | .daddu rd rs rt => rForm 0x00#6 rs rt rd 0x00#5 0x2d#6
  | .dsub rd rs rt => rForm 0x00#6 rs rt rd 0x00#5 0x2e#6
  | .dsubu rd rs rt => rForm 0x00#6 rs rt rd 0x00#5 0x2f#6
  | .movz rd rs rt => rForm 0x00#6 rs rt rd 0x00#5 0x0a#6
  | .movn rd rs rt => rForm 0x00#6 rs rt rd 0x00#5 0x0b#6
  | .sll rd rt sa => rForm 0x00#6 0x00#5 rt rd sa 0x00#6
  | .srl rd rt sa => rForm 0x00#6 0x00#5 rt rd sa 0x02#6
  | .sra rd rt sa => rForm 0x00#6 0x00#5 rt rd sa 0x03#6
  | .dsll rd rt sa => rForm 0x00#6 0x00#5 rt rd sa 0x38#6
  | .dsrl rd rt sa => rForm 0x00#6 0x00#5 rt rd sa 0x3a#6
  | .dsra rd rt sa => rForm 0x00#6 0x00#5 rt rd sa 0x3b#6
  | .dsll32 rd rt sa => rForm 0x00#6 0x00#5 rt rd sa 0x3c#6
  | .dsrl32 rd rt sa => rForm 0x00#6 0x00#5 rt rd sa 0x3e#6
  | .dsra32 rd rt sa => rForm 0x00#6 0x00#5 rt rd sa 0x3f#6
  | .sllv rd rt rs => rForm 0x00#6 rs rt rd 0x00#5 0x04#6
  | .srlv rd rt rs => rForm 0x00#6 rs rt rd 0x00#5 0x06#6
  | .srav rd rt rs => rForm 0x00#6 rs rt rd 0x00#5 0x07#6
  | .dsllv rd rt rs => rForm 0x00#6 rs rt rd 0x00#5 0x14#6
  | .dsrlv rd rt rs => rForm 0x00#6 rs rt rd 0x00#5 0x16#6
  | .dsrav rd rt rs => rForm 0x00#6 rs rt rd 0x00#5 0x17#6
  | .mult rs rt => rForm 0x00#6 rs rt 0x00#5 0x00#5 0x18#6
  | .multu rs rt => rForm 0x00#6 rs rt 0x00#5 0x00#5 0x19#6
  | .div rs rt => rForm 0x00#6 rs rt 0x00#5 0x00#5 0x1a#6
  | .divu rs rt => rForm 0x00#6 rs rt 0x00#5 0x00#5 0x1b#6
  | .dmult rs rt => rForm 0x00#6 rs rt 0x00#5 0x00#5 0x1c#6
  | .dmultu rs rt => rForm 0x00#6 rs rt 0x00#5 0x00#5 0x1d#6
  | .ddiv rs rt => rForm 0x00#6 rs rt 0x00#5 0x00#5 0x1e#6
  | .ddivu rs rt => rForm 0x00#6 rs rt 0x00#5 0x00#5 0x1f#6
  | .mfhi rd => rForm 0x00#6 0x00#5 0x00#5 rd 0x00#5 0x10#6
  | .mthi rs => rForm 0x00#6 rs 0x00#5 0x00#5 0x00#5 0x11#6
  | .mflo rd => rForm 0x00#6 0x00#5 0x00#5 rd 0x00#5 0x12#6
  | .mtlo rs => rForm 0x00#6 rs 0x00#5 0x00#5 0x00#5 0x13#6
  | .jr rs => rForm 0x00#6 rs 0x00#5 0x00#5 0x00#5 0x08#6
  | .jalr rd rs => rForm 0x00#6 rs 0x00#5 rd 0x00#5 0x09#6
  | .syscall code => cForm 0x00#6 code 0x0c#6
  | .brk code => cForm 0x00#6 code 0x0d#6
  | .sync stype => rForm 0x00#6 0x00#5 0x00#5 0x00#5 stype 0x0f#6
  | .tge rs rt code => tForm 0x00#6 rs rt code 0x30#6
  | .tgeu rs rt code => tForm 0x00#6 rs rt code 0x31#6
  | .tlt rs rt code => tForm 0x00#6 rs rt code 0x32#6
  | .tltu rs rt code => tForm 0x00#6 rs rt code 0x33#6
  | .teq rs rt code => tForm 0x00#6 rs rt code 0x34#6
  | .tne rs rt code => tForm 0x00#6 rs rt code 0x36#6
  | .movf rd rs cc => rForm 0x00#6 rs (cc ++ 0x0#2) rd 0x00#5 0x01#6
  | .movt rd rs cc => rForm 0x00#6 rs (cc ++ 0x1#2) rd 0x00#5 0x01#6
  | .bltz rs offset => iForm 0x01#6 rs 0x00#5 offset
  | .bgez rs offset => iForm 0x01#6 rs 0x01#5 offset
  | .bltzl rs offset => iForm 0x01#6 rs 0x02#5 offset
  | .bgezl rs offset => iForm 0x01#6 rs 0x03#5 offset
  | .bltzal rs offset => iForm 0x01#6 rs 0x10#5 offset
  | .bgezal rs offset => iForm 0x01#6 rs 0x11#5 offset
  | .bltzall rs offset => iForm 0x01#6 rs 0x12#5 offset
  | .bgezall rs offset => iForm 0x01#6 rs 0x13#5 offset
  | .tgei rs imm => iForm 0x01#6 rs 0x08#5 imm
  | .tgeiu rs imm => iForm 0x01#6 rs 0x09#5 imm
  | .tlti rs imm => iForm 0x01#6 rs 0x0a#5 imm
  | .tltiu rs imm => iForm 0x01#6 rs 0x0b#5 imm
  | .teqi rs imm => iForm 0x01#6 rs 0x0c#5 imm
  | .tnei rs imm => iForm 0x01#6 rs 0x0e#5 imm
  | .j target => jForm 0x02#6 target
  | .jal target => jForm 0x03#6 target
  | .beq rs rt offset => iForm 0x04#6 rs rt offset
  | .bne rs rt offset => iForm 0x05#6 rs rt offset
  | .blez rs offset => iForm 0x06#6 rs 0x00#5 offset
  | .bgtz rs offset => iForm 0x07#6 rs 0x00#5 offset
  | .beql rs rt offset => iForm 0x14#6 rs rt offset
  | .bnel rs rt offset => iForm 0x15#6 rs rt offset
  | .blezl rs offset => iForm 0x16#6 rs 0x00#5 offset
  | .bgtzl rs offset => iForm 0x17#6 rs 0x00#5 offset
  | .cop0 cofun => jForm 0x10#6 cofun
  | .cop2 cofun => jForm 0x12#6 cofun
  | .mfc1 rt fs => rForm 0x11#6 0x00#5 rt fs 0x00#5 0x00#6
  | .dmfc1 rt fs => rForm 0x11#6 0x01#5 rt fs 0x00#5 0x00#6
  | .cfc1 rt fs => rForm 0x11#6 0x02#5 rt fs 0x00#5 0x00#6
  | .mtc1 rt fs => rForm 0x11#6 0x04#5 rt fs 0x00#5 0x00#6
  | .dmtc1 rt fs => rForm 0x11#6 0x05#5 rt fs 0x00#5 0x00#6
  | .ctc1 rt fs => rForm 0x11#6 0x06#5 rt fs 0x00#5 0x00#6
  | .bc1f cc offset => iForm 0x11#6 0x08#5 (cc ++ 0x0#2) offset
  | .bc1t cc offset => iForm 0x11#6 0x08#5 (cc ++ 0x1#2) offset
  | .bc1fl cc offset => iForm 0x11#6 0x08#5 (cc ++ 0x2#2) offset
  | .bc1tl cc offset => iForm 0x11#6 0x08#5 (cc ++ 0x3#2) offset
  | .addS fd fs ft => rForm 0x11#6 0x10#5 ft fs fd 0x00#6
  | .addD fd fs ft => rForm 0x11#6 0x11#5 ft fs fd 0x00#6
  | .subS fd fs ft => rForm 0x11#6 0x10#5 ft fs fd 0x01#6
  | .subD fd fs ft => rForm 0x11#6 0x11#5 ft fs fd 0x01#6
  | .mulS fd fs ft => rForm 0x11#6 0x10#5 ft fs fd 0x02#6
  | .mulD fd fs ft => rForm 0x11#6 0x11#5 ft fs fd 0x02#6
  | .divS fd fs ft => rForm 0x11#6 0x10#5 ft fs fd 0x03#6
  | .divD fd fs ft => rForm 0x11#6 0x11#5 ft fs fd 0x03#6
  | .sqrtS fd fs => rForm 0x11#6 0x10#5 0x00#5 fs fd 0x04#6
  | .sqrtD fd fs => rForm 0x11#6 0x11#5 0x00#5 fs fd 0x04#6
  | .absS fd fs => rForm 0x11#6 0x10#5 0x00#5 fs fd 0x05#6
  | .absD fd fs => rForm 0x11#6 0x11#5 0x00#5 fs fd 0x05#6
  | .movS fd fs => rForm 0x11#6 0x10#5 0x00#5 fs fd 0x06#6
  | .movD fd fs => rForm 0x11#6 0x11#5 0x00#5 fs fd 0x06#6
  | .negS fd fs => rForm 0x11#6 0x10#5 0x00#5 fs fd 0x07#6
  | .negD fd fs => rForm 0x11#6 0x11#5 0x00#5 fs fd 0x07#6
  | .roundLS fd fs => rForm 0x11#6 0x10#5 0x00#5 fs fd 0x08#6
  | .roundLD fd fs => rForm 0x11#6 0x11#5 0x00#5 fs fd 0x08#6
  | .truncLS fd fs => rForm 0x11#6 0x10#5 0x00#5 fs fd 0x09#6
  | .truncLD fd fs => rForm 0x11#6 0x11#5 0x00#5 fs fd 0x09#6
  | .ceilLS fd fs => rForm 0x11#6 0x10#5 0x00#5 fs fd 0x0a#6
  | .ceilLD fd fs => rForm 0x11#6 0x11#5 0x00#5 fs fd 0x0a#6
  | .floorLS fd fs => rForm 0x11#6 0x10#5 0x00#5 fs fd 0x0b#6
  | .floorLD fd fs => rForm 0x11#6 0x11#5 0x00#5 fs fd 0x0b#6
  | .roundWS fd fs => rForm 0x11#6 0x10#5 0x00#5 fs fd 0x0c#6
  | .roundWD fd fs => rForm 0x11#6 0x11#5 0x00#5 fs fd 0x0c#6
  | .truncWS fd fs => rForm 0x11#6 0x10#5 0x00#5 fs fd 0x0d#6
  | .truncWD fd fs => rForm 0x11#6 0x11#5 0x00#5 fs fd 0x0d#6
  | .ceilWS fd fs => rForm 0x11#6 0x10#5 0x00#5 fs fd 0x0e#6
  | .ceilWD fd fs => rForm 0x11#6 0x11#5 0x00#5 fs fd 0x0e#6
  | .floorWS fd fs => rForm 0x11#6 0x10#5 0x00#5 fs fd 0x0f#6
  | .floorWD fd fs => rForm 0x11#6 0x11#5 0x00#5 fs fd 0x0f#6
  | .recipS fd fs => rForm 0x11#6 0x10#5 0x00#5 fs fd 0x15#6
  | .recipD fd fs => rForm 0x11#6 0x11#5 0x00#5 fs fd 0x15#6
  | .rsqrtS fd fs => rForm 0x11#6 0x10#5 0x00#5 fs fd 0x16#6
  | .rsqrtD fd fs => rForm 0x11#6 0x11#5 0x00#5 fs fd 0x16#6
  | .movfS fd fs cc => rForm 0x11#6 0x10#5 (cc ++ 0x0#2) fs fd 0x11#6
  | .movtS fd fs cc => rForm 0x11#6 0x10#5 (cc ++ 0x1#2) fs fd 0x11#6
  | .movzS fd fs rt => rForm 0x11#6 0x10#5 rt fs fd 0x12#6
  | .movnS fd fs rt => rForm 0x11#6 0x10#5 rt fs fd 0x13#6
  | .movfD fd fs cc => rForm 0x11#6 0x11#5 (cc ++ 0x0#2) fs fd 0x11#6
  | .movtD fd fs cc => rForm 0x11#6 0x11#5 (cc ++ 0x1#2) fs fd 0x11#6
  | .movzD fd fs rt => rForm 0x11#6 0x11#5 rt fs fd 0x12#6
  | .movnD fd fs rt => rForm 0x11#6 0x11#5 rt fs fd 0x13#6
  | .cvtSD fd fs => rForm 0x11#6 0x11#5 0x00#5 fs fd 0x20#6
  | .cvtSW fd fs => rForm 0x11#6 0x14#5 0x00#5 fs fd 0x20#6
  | .cvtSL fd fs => rForm 0x11#6 0x15#5 0x00#5 fs fd 0x20#6
  | .cvtDS fd fs => rForm 0x11#6 0x10#5 0x00#5 fs fd 0x21#6
  | .cvtDW fd fs => rForm 0x11#6 0x14#5 0x00#5 fs fd 0x21#6
  | .cvtDL fd fs => rForm 0x11#6 0x15#5 0x00#5 fs fd 0x21#6
  | .cvtWS fd fs => rForm 0x11#6 0x10#5 0x00#5 fs fd 0x24#6
  | .cvtWD fd fs => rForm 0x11#6 0x11#5 0x00#5 fs fd 0x24#6
  | .cvtLS fd fs => rForm 0x11#6 0x10#5 0x00#5 fs fd 0x25#6
  | .cvtLD fd fs => rForm 0x11#6 0x11#5 0x00#5 fs fd 0x25#6
  | .cFS cc fs ft => rForm 0x11#6 0x10#5 ft fs (cc ++ 0x0#2) 0x30#6
  | .cUnS cc fs ft => rForm 0x11#6 0x10#5 ft fs (cc ++ 0x0#2) 0x31#6
  | .cEqS cc fs ft => rForm 0x11#6 0x10#5 ft fs (cc ++ 0x0#2) 0x32#6
  | .cUeqS cc fs ft => rForm 0x11#6 0x10#5 ft fs (cc ++ 0x0#2) 0x33#6
  | .cOltS cc fs ft => rForm 0x11#6 0x10#5 ft fs (cc ++ 0x0#2) 0x34#6
  | .cUltS cc fs ft => rForm 0x11#6 0x10#5 ft fs (cc ++ 0x0#2) 0x35#6
  | .cOleS cc fs ft => rForm 0x11#6 0x10#5 ft fs (cc ++ 0x0#2) 0x36#6
  | .cUleS cc fs ft => rForm 0x11#6 0x10#5 ft fs (cc ++ 0x0#2) 0x37#6
  | .cSfS cc fs ft => rForm 0x11#6 0x10#5 ft fs (cc ++ 0x0#2) 0x38#6
  | .cNgleS cc fs ft => rForm 0x11#6 0x10#5 ft fs (cc ++ 0x0#2) 0x39#6
  | .cSeqS cc fs ft => rForm 0x11#6 0x10#5 ft fs (cc ++ 0x0#2) 0x3a#6
  | .cNglS cc fs ft => rForm 0x11#6 0x10#5 ft fs (cc ++ 0x0#2) 0x3b#6
  | .cLtS cc fs ft => rForm 0x11#6 0x10#5 ft fs (cc ++ 0x0#2) 0x3c#6
  | .cNgeS cc fs ft => rForm 0x11#6 0x10#5 ft fs (cc ++ 0x0#2) 0x3d#6
  | .cLeS cc fs ft => rForm 0x11#6 0x10#5 ft fs (cc ++ 0x0#2) 0x3e#6
  | .cNgtS cc fs ft => rForm 0x11#6 0x10#5 ft fs (cc ++ 0x0#2) 0x3f#6
  | .cFD cc fs ft => rForm 0x11#6 0x11#5 ft fs (cc ++ 0x0#2) 0x30#6
  | .cUnD cc fs ft => rForm 0x11#6 0x11#5 ft fs (cc ++ 0x0#2) 0x31#6
  | .cEqD cc fs ft => rForm 0x11#6 0x11#5 ft fs (cc ++ 0x0#2) 0x32#6
  | .cUeqD cc fs ft => rForm 0x11#6 0x11#5 ft fs (cc ++ 0x0#2) 0x33#6
  | .cOltD cc fs ft => rForm 0x11#6 0x11#5 ft fs (cc ++ 0x0#2) 0x34#6
  | .cUltD cc fs ft => rForm 0x11#6 0x11#5 ft fs (cc ++ 0x0#2) 0x35#6
  | .cOleD cc fs ft => rForm 0x11#6 0x11#5 ft fs (cc ++ 0x0#2) 0x36#6
  | .cUleD cc fs ft => rForm 0x11#6 0x11#5 ft fs (cc ++ 0x0#2) 0x37#6
  | .cSfD cc fs ft => rForm 0x11#6 0x11#5 ft fs (cc ++ 0x0#2) 0x38#6
  | .cNgleD cc fs ft => rForm 0x11#6 0x11#5 ft fs (cc ++ 0x0#2) 0x39#6
  | .cSeqD cc fs ft => rForm 0x11#6 0x11#5 ft fs (cc ++ 0x0#2) 0x3a#6
  | .cNglD cc fs ft => rForm 0x11#6 0x11#5 ft fs (cc ++ 0x0#2) 0x3b#6
  | .cLtD cc fs ft => rForm 0x11#6 0x11#5 ft fs (cc ++ 0x0#2) 0x3c#6
  | .cNgeD cc fs ft => rForm 0x11#6 0x11#5 ft fs (cc ++ 0x0#2) 0x3d#6
  | .cLeD cc fs ft => rForm 0x11#6 0x11#5 ft fs (cc ++ 0x0#2) 0x3e#6
  | .cNgtD cc fs ft => rForm 0x11#6 0x11#5 ft fs (cc ++ 0x0#2) 0x3f#6
  | .lwxc1 fd index base => rForm 0x13#6 base index 0x00#5 fd 0x00#6
  | .ldxc1 fd index base => rForm 0x13#6 base index 0x00#5 fd 0x01#6
  | .swxc1 fs index base => rForm 0x13#6 base index fs 0x00#5 0x08#6
  | .sdxc1 fs index base => rForm 0x13#6 base index fs 0x00#5 0x09#6
  | .prefx hint index base => rForm 0x13#6 base index hint 0x00#5 0x0f#6
  | .maddS fd fr fs ft => rForm 0x13#6 fr ft fs fd 0x20#6
  | .maddD fd fr fs ft => rForm 0x13#6 fr ft fs fd 0x21#6
  | .msubS fd fr fs ft => rForm 0x13#6 fr ft fs fd 0x28#6
  | .msubD fd fr fs ft => rForm 0x13#6 fr ft fs fd 0x29#6
  | .nmaddS fd fr fs ft => rForm 0x13#6 fr ft fs fd 0x30#6
  | .nmaddD fd fr fs ft => rForm 0x13#6 fr ft fs fd 0x31#6
  | .nmsubS fd fr fs ft => rForm 0x13#6 fr ft fs fd 0x38#6
  | .nmsubD fd fr fs ft => rForm 0x13#6 fr ft fs fd 0x39#6

/-- The bytes of an instruction in address order. -/
def encodeBytes (big : Bool) (i : Instr) : List Byte := bytesOfWord big (encode i)

end Sys2Proof
end

