-- ==== Sys2Proof/Config.lean ====
section
/-! DEFINITION. What an implementation fixes (the parameters of 00_scope.md R8), as plain data that
State carries and no step changes, and the free values of the model, as constants without a body
(00_scope.md R13). -/

namespace Sys2Proof

/-- The operand formats of the FPU: single, double, word, longword (44_fpu_model.md R421). -/
inductive Fmt where
  | s | d | w | l
  deriving DecidableEq, Repr

/-- The kind of one memory access: `IorD` and `LorS` of AddressTranslation (20_memory.md R86). -/
inductive Access where
  | fetch | load | store
  deriving DecidableEq, Repr

/-- The access type (cache coherence algorithm) a translation answers (20_memory.md R88, R104). -/
inductive Cca where
  | uncached | cachedNoncoherent | cachedCoherent
  deriving DecidableEq, Repr

/-- The exceptions a translation can answer (20_memory.md R104). -/
inductive XlateFault where
  | addressError | tlbRefill | tlbInvalid | tlbModified
  deriving DecidableEq, Repr

/-- What `Translate` answers for one address: a physical address and access type, or an exception
(20_memory.md R104). -/
inductive Translation where
  | ok (pa : Word) (cca : Cca)
  | exception (e : XlateFault)
  deriving DecidableEq, Repr

/-- One row of the table that stands for the parameter `Translate` (20_memory.md R104, log 14):
the virtual addresses `first` to `last`, for the access kinds listed. An `ok pa cca` answer gives
`pa + (va - first)`. -/
structure Region where
  first : Word
  last : Word
  kinds : List Access
  answer : Translation
  deriving DecidableEq, Repr

/-- The two behaviours LWR may have for bits 63..32 (40_cpu_load_store.md R215). -/
inductive LwrUpper where
  | keep | signExtend
  deriving DecidableEq, Repr

/-- The two arithmetic models of the multiply-accumulate instructions (44_fpu_model.md R459). -/
inductive MaddModel where
  | rounded | unrounded
  deriving DecidableEq, Repr

/-- Whether FPR value formats are tracked (44_fpu_model.md R432). -/
inductive FprTags where
  | strict | bits
  deriving DecidableEq, Repr

/-- The exception of a reserved COP1 or COP1X encoding (30_encoding.md R150). -/
inductive ReservedFpu where
  | reservedInstruction | unimplementedOperation
  deriving DecidableEq, Repr

/-- For a parameter that is a function (Unimpl, QNaNOf, RecipFn, RsqrtFn, Handler): the default the
spec names, or a particular part's or client's choice, about which nothing is known (logs 16, 18). -/
inductive PartChoice where
  | default | part
  deriving DecidableEq, Repr

/-- The operations of the FPU, as the parameters `Unimpl` and `QNaNOf` tell them apart: those that
finish through FPResult (44_fpu_model.md R444), and the formatted moves
(47_fpu_convert_move_branch.md R560 to R564). -/
inductive FpOp where
  | add | sub | mul | div | sqrt | abs | neg | recip | rsqrt
  | madd | msub | nmadd | nmsub
  | compare (cond : BitVec 4)
  | convert (dst : Fmt)
  | round (dst : Fmt) | trunc (dst : Fmt) | ceil (dst : Fmt) | floor (dst : Fmt)
  | mov | movf | movt | movn | movz
  deriving DecidableEq, Repr

/-- Where, within one instruction, a free value is drawn: two sites of one instruction draw
independently (00_scope.md R13: two reads need not agree). -/
inductive DrawSite where
  | rs | rt | rd | hi | lo | fs | ft | fr | fd | mem | overflow | link | result
  deriving DecidableEq, Repr

/-- The parameters of 00_scope.md R8. They are constant over a run: no step changes them (log 1). -/
structure Config where
  /-- `PSIZE`, the number of physical address bits. -/
  psize : Nat
  /-- `BigEndianMem`: memory byte order is big-endian. -/
  bigEndianMem : Bool
  /-- `ReverseEndian`. -/
  reverseEndian : Bool
  /-- `SizeFGR` = 64 when true, 32 when false. -/
  fgr64 : Bool
  /-- `Translate`: the first region that covers the address and kind answers; with none, identity. -/
  translate : List Region
  /-- `CU[0..3]`: coprocessor usable. -/
  cu0 : Bool
  cu1 : Bool
  cu2 : Bool
  cu3 : Bool
  /-- `Unimpl`: never, or a part's own predicate. -/
  unimpl : PartChoice
  /-- `MaddModel`. -/
  madd : MaddModel
  /-- `RecipFn`. -/
  recip : PartChoice
  /-- `RsqrtFn`. -/
  rsqrt : PartChoice
  /-- `QNaNOf`. -/
  qnan : PartChoice
  /-- `FIR` bits 15..8, the implementation number (10_state.md R45). -/
  firImp : Byte
  /-- `FIR` bits 7..0, the revision number (10_state.md R45). -/
  firRev : Byte
  /-- `LWRUpper`. -/
  lwrUpper : LwrUpper
  /-- `ResetPC`. -/
  resetPC : Word
  /-- `FPRTags`. -/
  fprTags : FprTags
  /-- `FlushResult`: the pairs (rounding mode, result is negative) for which the part delivers
  ±2^E_min; every other pair delivers the zero of that sign (44_fpu_model.md R447, log 17). -/
  flushToMin : List (BitVec 2 × Bool)
  /-- `ReservedFPU`. -/
  reservedFpu : ReservedFpu
  /-- `Handler`: none, or a client's own (60_exceptions.md R620, log 18). -/
  handler : PartChoice
  /-- `Unbacked`: ranges (first, last) of physical addresses whose access raises Bus Error. -/
  unbacked : List (Nat × Nat)
  /-- The condition signals of coprocessors 0, 2 and 3, inputs no instruction of the table reads
  (10_state.md R40). -/
  coc0 : Bool
  coc2 : Bool
  coc3 : Bool
  deriving DecidableEq, Repr

/-- The parameter values at reset: the defaults of 00_scope.md R8; where R8 names no default, a
DESIGN CHOICE of the model (logs 2 to 5, 7, 8, 34). -/
def Config.default : Config :=
  { psize := 64, bigEndianMem := true, reverseEndian := false, fgr64 := true, translate := [],
    cu0 := false, cu1 := true, cu2 := false, cu3 := false, unimpl := .default,
    madd := .unrounded, recip := .default, rsqrt := .default, qnan := .default,
    firImp := 0, firRev := 0, lwrUpper := .keep, resetPC := 0x1000, fprTags := .strict,
    flushToMin := [], reservedFpu := .reservedInstruction, handler := .default, unbacked := [],
    coc0 := false, coc2 := false, coc3 := false }

/-- The free draw of the spec's `UNDEF_n` (00_scope.md R13): nothing is known of it. The first
argument is the serial number of the instruction, the second the place within it (log 11). -/
opaque Config.draw : Nat → DrawSite → Word

/-- A part's own `Unimpl` predicate (44_fpu_model.md R442): operation, operand format, up to three
operands, the FCSR. -/
opaque Config.unimplOracle : FpOp → Fmt → Word → Word → Word → BitVec 32 → Bool

/-- A part's own choice of quiet NaN (44_fpu_model.md R456): operation, result format, operands. -/
opaque Config.qnanOracle : FpOp → Fmt → Word → Word → Word → Word

/-- Whether a part inverts the sign of a NaN result of NMADD or NMSUB, which is part of `QNaNOf`
(46_fpu_arith.md R513, 92_eei_decisions.md D14): operation, format, operands. -/
opaque Config.nanNegOracle : FpOp → Fmt → Word → Word → Word → Bool

/-- A part's own reciprocal approximation (44_fpu_model.md R458): format, rounding mode, operand. -/
opaque Config.recipOracle : Fmt → BitVec 2 → Word → Word

/-- A part's own reciprocal square root approximation (44_fpu_model.md R458). -/
opaque Config.rsqrtOracle : Fmt → BitVec 2 → Word → Word

end Sys2Proof
end

