-- ==== Sys2Proof/Machine/State.lean ====
section
/-! DEFINITION. The state of the machine as plain data (10_state.md R60, 70_reset_and_hazards.md
R650), the outcomes that are no next state, and the state after reset. -/

namespace Sys2Proof.Machine

open Sys2Proof

/-- A register cell: its bits, and which of them hold UNDEF. An undefined bit is drawn afresh at each
read until the register is rewritten (00_scope.md R13, 92_eei_decisions.md D15, log 11). -/
structure Reg where
  val : Word := 0
  undef : Word := 0
  deriving DecidableEq, Repr

/-- The value format of an FPR (10_state.md R43, 44_fpu_model.md R432). -/
inductive Tag where
  | uninterpreted | unknown
  | is (fmt : Fmt)
  deriving DecidableEq, Repr

/-- The HI/LO read records `hi_rd` and `lo_rd`: none, age 0, age 1 (10_state.md R36). -/
inductive ReadAge where
  | none | age0 | age1
  deriving DecidableEq, Repr

/-- `LLaddr`: the physical address and width of the last LL or LLD, and whether its access type was
a cached one (10_state.md R39, 40_cpu_load_store.md R226, log 24). -/
structure Link where
  pa : Word
  width : Nat
  cached : Bool
  deriving DecidableEq, Repr

/-- The exceptions, with the information each records (60_exceptions.md R601 to R613, R615). -/
inductive Exc where
  | integerOverflow | trap | systemCall | breakpoint | reservedInstruction
  | coprocessorUnusable (z : Fin 4)
  | floatingPoint
  | addressError (va : Word) (access : Access)
  | tlbRefill (va : Word) (access : Access)
  | tlbInvalid (va : Word) (access : Access)
  | tlbModified (va : Word)
  | busError (va : Word) (access : Access)
  | interrupt
  deriving DecidableEq, Repr

/-- The trap record (60_exceptions.md R620 item 4). -/
structure TrapRecord where
  kind : Exc
  victimPc : Word
  bd : Bool
  restartPc : Word
  deriving DecidableEq, Repr

/-- Memory: the listed bytes by physical address, addresses rising, no listed byte equal to what an
unlisted address reads as (10_state.md R57, log 10). -/
abbrev Memory := List Host.Cell

/-- What an unlisted byte of memory reads as. The spec leaves it unspecified (10_state.md R57):
DESIGN CHOICE, log 10. -/
def Memory.unlisted : Byte := 0

/-- The state of the machine (10_state.md R60). -/
structure State where
  /-- The parameters, constant over a run (00_scope.md R8, log 1). -/
  cfg : Config
  /-- `x[0..31]`; `x[0]` reads 0 (10_state.md R30, R31). -/
  gpr : Vector Reg 32
  /-- `HI` (10_state.md R35). -/
  hi : Reg
  /-- `LO` (10_state.md R35). -/
  lo : Reg
  /-- `hi_rd` (10_state.md R36). -/
  hiRd : ReadAge
  /-- `lo_rd` (10_state.md R36). -/
  loRd : ReadAge
  /-- The address of the instruction being executed (10_state.md R34). -/
  pc : Word
  /-- The address of the instruction that executes after it (10_state.md R34). -/
  npc : Word
  /-- The instruction at `pc` is in a branch delay slot (10_state.md R34). -/
  bd : Bool
  /-- `LLbit` (10_state.md R39). -/
  llBit : Bool
  /-- `LLaddr` (10_state.md R39). -/
  llAddr : Link
  /-- `f[0..31]`, of 64 bits, or of 32 in the low half of the cell (10_state.md R41, log 36). -/
  fgr : Vector Reg 32
  /-- The format tags of the FPRs (10_state.md R43). -/
  tags : Vector Tag 32
  /-- `fcr[31]`, the FCSR (10_state.md R46). -/
  fcsr : BitVec 32
  /-- Memory (10_state.md R57). -/
  mem : Memory
  /-- The physical addresses the run has stored to, rising (20_memory.md R108). -/
  stored : List Nat
  /-- The physical addresses of the bytes that hold UNDEF, rising: each is drawn afresh at each read
  until it is rewritten (00_scope.md R13, 92_eei_decisions.md D15, log 12). -/
  undefMem : List Nat
  /-- The trap record; the machine is running while it is `none` (60_exceptions.md R620). -/
  trap : Option TrapRecord
  /-- The answers the interrupt oracle still has to give, one per step; when the list is empty the
  answer is no (60_exceptions.md R626, log 19). -/
  intPending : List Bool
  /-- The model's own: the serial number of the instruction in the free draws (log 11). -/
  draws : Nat
  deriving DecidableEq, Repr

/-- A client's own `Handler`: the state in which it continues a trapped machine, or none if it leaves
this trap terminal; nothing is known of it (60_exceptions.md R620, log 18). -/
opaque State.handlerOracle : State → Option State

/-- A step that is a fault. -/
inductive Fault where
  /-- Raised by `step` on a machine that holds a trap record and that no `Handler` continues: it is
  terminal and executes nothing further (60_exceptions.md R620, R622; log 18). Safe: no claim about a
  later state can be proved. -/
  | trapped
  deriving DecidableEq, Repr

/-- A step that the model refuses to give a meaning. -/
inductive Refusal where
  /-- Answered by `exec` for an instruction not modelled yet. Safe. -/
  | notModelled (mnemonic : String)
  /-- Answered by a word or doubleword access whose offset field has nonzero low bits
  (20_memory.md R95). Safe: the spec calls the instruction undefined. -/
  | offsetField
  /-- Answered by a branch or jump executed in a delay slot (42_cpu_jump_branch.md R342 (c)). Safe. -/
  | branchInDelaySlot
  /-- Answered by a linking branch with rs = 31 (42_cpu_jump_branch.md R342 (a)). Safe. -/
  | linkRegister31
  /-- Answered by JALR with rd = rs (42_cpu_jump_branch.md R342 (b)), also when both are 0 (log 41). Safe. -/
  | jalrSameRegister
  /-- Answered by a writer of HI (LO) within two instructions after MFHI (MFLO)
  (41_cpu_alu.md R300). Safe. -/
  | hiLoHazard
  /-- Answered by a fetch from bytes the run has stored to (70_reset_and_hazards.md R675). Safe. -/
  | storedCode
  /-- Answered by a COP0 word when the parameter CU[0] is 1: the spec describes no coprocessor 0
  (log 28). Safe. -/
  | coprocessor0Undescribed
  /-- Answered by an operation of coprocessor 2 when the parameter CU[2] is 1: the spec describes no
  coprocessor 2 (43_cpu_misc.md R401, log 28). Safe. -/
  | coprocessor2Undescribed
  deriving DecidableEq, Repr

/-- What executing an instruction answers. -/
abbrev Result := Host.Outcome State Fault Refusal

/-- The machine right after reset with given parameters (70_reset_and_hazards.md R650). Registers
the spec leaves unspecified hold 0 (DESIGN CHOICE, log 9). -/
def State.resetWith (cfg : Config) : State :=
  { cfg := cfg
    gpr := Vector.replicate 32 {}
    hi := {}
    lo := {}
    hiRd := .none
    loRd := .none
    pc := cfg.resetPC
    npc := cfg.resetPC + 4
    bd := false
    llBit := false
    llAddr := { pa := 0, width := 0, cached := false }
    fgr := Vector.replicate 32 {}
    tags := Vector.replicate 32 .unknown
    fcsr := 0
    mem := []
    stored := []
    undefMem := []
    trap := none
    intPending := []
    draws := 0 }

/-- The machine right after reset, with the parameters of `Config.default`. -/
def State.reset : State := State.resetWith Config.default

end Sys2Proof.Machine
end

