-- ==== Sys2Proof/Machine/Ops.lean ====
section
/-! DEFINITION. The named operations over registers, the program counter, memory and the link bit,
taking an exception, and fetching an instruction. Every meaning is written over these. -/

namespace Sys2Proof.Machine

open Sys2Proof

/-! ### Registers -/

/-- The value a cell reads as: its undefined bits, if it has any, come from the draw `d`
(00_scope.md R13). -/
def Reg.read (r : Reg) (d : Word) : Word :=
  if r.undef = 0 then r.val else (r.val &&& ~~~r.undef) ||| (d &&& r.undef)

/-- A cell that holds a value. -/
def Reg.of (v : Word) : Reg := { val := v, undef := 0 }

/-- A cell that holds `UNDEF_64` (00_scope.md R13). -/
def Reg.unknown : Reg := { val := 0, undef := BitVec.allOnes 64 }

/-- The free draw at one site of the instruction being executed (00_scope.md R13, log 11). -/
def State.draw (s : State) (site : DrawSite) : Word := Config.draw s.draws site

/-- A free draw of one bit. -/
def State.drawBit (s : State) (site : DrawSite) : Bool := (s.draw site).getLsbD 0

/-- `x[r]`, read through operand field `site`; `x[0]` reads 0 (10_state.md R31). -/
def State.x (s : State) (site : DrawSite) (r : RegNum) : Word :=
  if r = 0 then 0 else s.gpr[r.toNat].read (s.draw site)

/-- Put a cell into `x[r]`; a write to `x[0]` is discarded (10_state.md R31). -/
def State.putX (s : State) (r : RegNum) (c : Reg) : State :=
  if r = 0 then s else { s with gpr := s.gpr.set r.toNat c }

/-- `x[r] <- v` (10_state.md R31). -/
def State.setX (s : State) (r : RegNum) (v : Word) : State := s.putX r (Reg.of v)

/-- `x[r] <- UNDEF_64` (00_scope.md R13). -/
def State.undefX (s : State) (r : RegNum) : State := s.putX r Reg.unknown

/-- The value of `HI` (10_state.md R35). -/
def State.readHi (s : State) : Word := s.hi.read (s.draw .hi)

/-- The value of `LO` (10_state.md R35). -/
def State.readLo (s : State) : Word := s.lo.read (s.draw .lo)

/-- `HI <- h; LO <- l`, as cells. -/
def State.putHiLo (s : State) (h l : Reg) : State := { s with hi := h, lo := l }

/-! ### Completing an instruction and taking an exception -/

/-- The record of a HI or LO read, one completed instruction later (41_cpu_alu.md R300). -/
def ReadAge.older : ReadAge → ReadAge
  | .age0 => .age1
  | .age1 => .none
  | .none => .none

/-- What every completed instruction does besides its own effect and the program counter: the HI/LO
records age (41_cpu_alu.md R300) and the draws move on (log 11). -/
def State.age (s : State) : State :=
  { s with hiRd := s.hiRd.older, loRd := s.loRd.older, draws := s.draws + 1 }

/-- The end of every instruction that is no branch: `pc <- npc; npc <- npc + 4; bd <- 0`
(10_state.md R34, 42_cpu_jump_branch.md R340). -/
def State.complete (s : State) : State :=
  { s.age with pc := s.npc, npc := s.npc + 4, bd := false }

/-- The end of an ordinary branch or jump: the delay slot is next, the target after it
(42_cpu_jump_branch.md R340). -/
def State.jumpTo (s : State) (taken : Bool) (target : Word) : State :=
  { s.age with pc := s.npc, npc := if taken then target else s.npc + 4, bd := true }

/-- The end of a branch likely: not taken, the delay slot is nullified
(42_cpu_jump_branch.md R340, 00_scope.md R17). -/
def State.jumpLikely (s : State) (taken : Bool) (target : Word) : State :=
  if taken then s.jumpTo true target
  else { s.age with pc := s.npc + 4, npc := s.npc + 8, bd := false }

/-- Taking an exception: `LLbit` and the HI/LO records are cleared and the trap record written;
`pc`, `npc`, `bd` keep the values they had at the victim (60_exceptions.md R620). -/
def State.raise (s : State) (e : Exc) : State :=
  { s with
    llBit := false
    hiRd := .none
    loRd := .none
    trap := some { kind := e, victimPc := s.pc, bd := s.bd,
                   restartPc := if s.bd then s.pc - 4 else s.pc }
    draws := s.draws + 1 }

/-- An instruction of coprocessor 1 checks `CU[1]` first (43_cpu_misc.md R402). -/
def State.withCu1 (s : State) (k : Result) : Result :=
  if s.cfg.cu1 then k else .next (s.raise (.coprocessorUnusable 1))

/-! ### Memory cells (10_state.md R57) -/

/-- The byte at a physical address. -/
def Memory.read : Memory → Nat → Byte
  | [], _ => Memory.unlisted
  | (b, v) :: m, a => if a = b then v else Memory.read m a

/-- Put an entry at the head, unless its byte is what an unlisted address reads as. -/
def Memory.cons (a : Nat) (v : Byte) (m : Memory) : Memory :=
  if v = Memory.unlisted then m else (a, v) :: m

/-- Write a byte, keeping the addresses rising. -/
def Memory.write : Memory → Nat → Byte → Memory
  | [], a, v => Memory.cons a v []
  | (b, w) :: m, a, v =>
    if a < b then Memory.cons a v ((b, w) :: m)
    else if a = b then Memory.cons a v m
    else (b, w) :: Memory.write m a v

/-- The canonical form: addresses strictly rising, no entry equal to an unlisted byte. -/
def Memory.wf : Memory → Bool
  | [] => true
  | (a, v) :: m => v != Memory.unlisted && m.all (fun c => decide (a < c.1)) && Memory.wf m

/-- Add an address to a rising list of addresses. -/
def insertAddr (a : Nat) : List Nat → List Nat
  | [] => [a]
  | b :: l => if a < b then a :: b :: l else if a = b then b :: l else b :: insertAddr a l

/-- A list of addresses is strictly rising. -/
def rising : List Nat → Bool
  | [] => true
  | a :: l => l.all (fun b => decide (a < b)) && rising l

/-! ### Address translation (20_memory.md R86, R104) -/

/-- Whether a row of the translation table covers an access. -/
def regionCovers (r : Region) (va : Word) (k : Access) : Bool :=
  decide (r.first ≤ va) && decide (va ≤ r.last) && r.kinds.contains k

/-- `Translate`: the first region that covers the access answers; with none, the default identity
and cached noncoherent (20_memory.md R104, log 14). -/
def State.translateVa (s : State) (va : Word) (k : Access) : Translation :=
  match s.cfg.translate.find? (regionCovers · va k) with
  | none => .ok va .cachedNoncoherent
  | some r =>
    match r.answer with
    | .ok pa cca => .ok (pa + (va - r.first)) cca
    | .exception e => .exception e

/-- The exception a failed translation raises (20_memory.md R96 step 2). -/
def xlateExc (e : XlateFault) (va : Word) (k : Access) : Exc :=
  match e with
  | .addressError => .addressError va k
  | .tlbRefill => .tlbRefill va k
  | .tlbInvalid => .tlbInvalid va k
  | .tlbModified => .tlbModified va

/-- The lowest `PSIZE` bits of an address (20_memory.md R80). -/
def State.truncate (s : State) (a : Word) : Word := BitVec.ofNat 64 (a.toNat % 2 ^ s.cfg.psize)

/-- Translation of one access: the physical address and access type, or the exception
(20_memory.md R86, R96). -/
def State.translated (s : State) (va : Word) (k : Access) : Except Exc (Word × Cca) :=
  match s.translateVa va k with
  | .ok pa cca => .ok (s.truncate pa, cca)
  | .exception e => .error (xlateExc e va k)

/-- The address of the physical byte that holds the byte at `a`: `a xor rep(ReverseEndian, 3)`,
modulo 2^PSIZE (20_memory.md R85, log 32). -/
def State.physByte (s : State) (a : Word) : Nat :=
  (a ^^^ (if s.cfg.reverseEndian then 7 else 0)).toNat % 2 ^ s.cfg.psize

/-- The physical bytes of an access of `n` bytes at `pa`, in the order of the virtual addresses. -/
def State.physBytes (s : State) (pa : Word) (n : Nat) : List Nat :=
  (List.range n).map fun i => s.physByte (pa + BitVec.ofNat 64 i)

/-- Whether the memory system completes an access to these bytes (60_exceptions.md R612, log 15). -/
def State.backed (s : State) (as : List Nat) : Bool :=
  as.all fun a => s.cfg.unbacked.all fun r => !(decide (r.1 ≤ a) && decide (a ≤ r.2))

/-- The physical bytes of an access to the `n` bytes from virtual address `first` up, translated once,
at `va`; or the exception it raises. `first` is `va`, but for the unaligned forms, whose bytes may
begin below `va` in its aligned doubleword (20_memory.md R92, R96 steps 2 and 3). -/
def State.locate (s : State) (va first : Word) (n : Nat) (k : Access) : Except Exc (List Nat) :=
  match s.translated va k with
  | .error e => .error e
  | .ok (pa, _) =>
    let as := s.physBytes (pa + (first - va)) n
    if s.backed as then .ok as else .error (.busError va k)

/-! ### Byte order (20_memory.md R83, R84) -/

/-- `BigEndianCPU = BigEndianMem xor ReverseEndian` (00_scope.md R8). -/
def State.bigEndianCpu (s : State) : Bool := s.cfg.bigEndianMem ^^ s.cfg.reverseEndian

/-- `Val`: the value of up to eight bytes in address order (40_cpu_load_store.md R213). -/
def valueOfBytes (big : Bool) (bs : List Byte) : Word :=
  (if big then bs else bs.reverse).foldl (fun acc b => (acc <<< 8) ||| b.setWidth 64) 0

/-- `Bytes(v, k)`: the low `k` bytes of a value, in address order (40_cpu_load_store.md R213). -/
def bytesOfValue (big : Bool) (v : Word) (k : Nat) : List Byte :=
  let bs := (List.range k).map fun i => v.extractLsb' (8 * i) 8
  if big then bs.reverse else bs

/-! ### Data access (20_memory.md R90 to R93) -/

/-- The byte at a physical address, as this instruction reads it: a byte that holds UNDEF is a free
draw, the eight bytes of a doubleword independent of each other (00_scope.md R13, log 12). -/
def State.readByte (s : State) (a : Nat) : Byte :=
  if s.undefMem.contains a then (s.draw .mem).extractLsb' (8 * (a % 8)) 8 else s.mem.read a

/-- `MemReadBytes`: one translation, of `va`, then the `n` bytes from `first` up (20_memory.md R92). -/
def State.readBytes (s : State) (va first : Word) (n : Nat) : Except Exc (List Byte) :=
  match s.locate va first n .load with
  | .error e => .error e
  | .ok as => .ok (as.map s.readByte)

/-- Write one physical byte and remember that the run has stored to it (20_memory.md R108). -/
def State.writeCell (s : State) (c : Nat × Byte) : State :=
  { s with mem := s.mem.write c.1 c.2, stored := insertAddr c.1 s.stored
           undefMem := s.undefMem.filter (· != c.1) }

/-- Write physical bytes. -/
def State.writeCells (s : State) (cs : List (Nat × Byte)) : State := cs.foldl State.writeCell s

/-- Store UNDEF to one physical byte (00_scope.md R13, log 12). -/
def State.undefCell (s : State) (a : Nat) : State :=
  { s with mem := s.mem.write a Memory.unlisted, stored := insertAddr a s.stored
           undefMem := insertAddr a s.undefMem }

/-- Store UNDEF to physical bytes. -/
def State.undefCells (s : State) (as : List Nat) : State := as.foldl State.undefCell s

/-- `MemWriteBytes`: one translation, of `va`; the bytes go from `first` up, all of them, or none and
the exception (20_memory.md R92). -/
def State.writeBytes (s : State) (va first : Word) (bs : List Byte) : Except Exc State :=
  match s.locate va first bs.length .store with
  | .error e => .error e
  | .ok as => .ok (s.writeCells (as.zip bs))

/-- Natural alignment of an object of `n` bytes (20_memory.md R93). -/
def aligned (va : Word) (n : Nat) : Bool := va.toNat % n == 0

/-- The alignment test and `MemRead(va, n)` (20_memory.md R90, R93). -/
def State.memRead (s : State) (va : Word) (n : Nat) : Except Exc Word :=
  if aligned va n then
    match s.readBytes va va n with
    | .error e => .error e
    | .ok bs => .ok (valueOfBytes s.bigEndianCpu bs)
  else .error (.addressError va .load)

/-- The alignment test and `MemWrite(va, n, v)` (20_memory.md R91, R93). -/
def State.memWrite (s : State) (va : Word) (n : Nat) (v : Word) : Except Exc State :=
  if aligned va n then s.writeBytes va va (bytesOfValue s.bigEndianCpu v n)
  else .error (.addressError va .store)

/-- The alignment test and `MemWrite(va, n, UNDEF)` (20_memory.md R91, R93, 45_fpu_transfer.md R485). -/
def State.memWriteUndef (s : State) (va : Word) (n : Nat) : Except Exc State :=
  if aligned va n then
    match s.locate va va n .store with
    | .error e => .error e
    | .ok as => .ok (s.undefCells as)
  else .error (.addressError va .store)

/-- `LLbit <- UNDEF_1` when it is 1: an ordinary load, store or prefetch inside an LL/SC sequence
(40_cpu_load_store.md R226 item 3). -/
def State.disturbLink (s : State) : State :=
  if s.llBit then { s with llBit := s.drawBit .link } else s

/-- `vAddr <- x[base] + sext_64(offset)` (40_cpu_load_store.md R200). -/
def State.effAddr (s : State) (base : RegNum) (offset : BitVec 16) : Word :=
  s.x .rs base + offset.signExtend 64

/-- The instruction word breaks the offset restriction of its width: UNDEFINED INSTRUCTION
(20_memory.md R95, log 21). -/
def offsetCheck (offset : BitVec 16) (k : Nat) (r : Result) : Result :=
  if lowZero offset k then r else .refused .offsetField

/-- A load: on success `write` puts the value where the instruction wants it
(40_cpu_load_store.md R201). -/
def State.load (s : State) (va : Word) (n : Nat) (write : State → Word → State) : Result :=
  match s.memRead va n with
  | .error e => .next (s.raise e)
  | .ok v => .next (write s.disturbLink v).complete

/-- The end of a store: its exception, or the state with the bytes written
(40_cpu_load_store.md R201). -/
def State.finishStore (s : State) (r : Except Exc State) : Result :=
  match r with
  | .error e => .next (s.raise e)
  | .ok s' => .next s'.disturbLink.complete

/-- A store of the low `n` bytes of `v` (40_cpu_load_store.md R201). -/
def State.store (s : State) (va : Word) (n : Nat) (v : Word) : Result :=
  s.finishStore (s.memWrite va n v)

/-- A store of `n` bytes that hold UNDEF (45_fpu_transfer.md R485). -/
def State.storeUndef (s : State) (va : Word) (n : Nat) : Result :=
  s.finishStore (s.memWriteUndef va n)

/-! ### Fetch (20_memory.md R98) -/

/-- `Fetch()`: the four bytes of the instruction word in address order, or what the step answers
instead: an exception, or the refusal of bytes the run has stored to (70_reset_and_hazards.md R675). -/
def State.fetch (s : State) : Except Result (List Byte) :=
  if aligned s.pc 4 then
    match s.locate s.pc s.pc 4 .fetch with
    | .error e => .error (.next (s.raise e))
    | .ok as =>
      if as.any s.stored.contains then .error (.refused .storedCode)
      else .ok (as.map s.readByte)
  else .error (.next (s.raise (.addressError s.pc .fetch)))

/-- What the machine does with a word that is no instruction (30_encoding.md R150, R151;
43_cpu_misc.md R402; log 23). -/
def State.badWord (s : State) (e : DecodeError) : Result :=
  match e with
  | .reserved | .zeroField | .length => .next (s.raise .reservedInstruction)
  | .movciZeroField | .fpuZeroField => s.withCu1 (.next (s.raise .reservedInstruction))
  | .reservedFpu =>
    s.withCu1
      (match s.cfg.reservedFpu with
       | .reservedInstruction => .next (s.raise .reservedInstruction)
       | .unimplementedOperation =>
         .next ({ s with fcsr := (s.fcsr &&& ~~~0x3f000#32) ||| 0x20000 }.raise .floatingPoint))

/-- The interrupt oracle's answer before this instruction (60_exceptions.md R626, log 19). -/
def State.interrupted (s : State) : Bool := s.intPending.headD false

/-- The state once the oracle has answered. -/
def State.popInterrupt (s : State) : State := { s with intPending := s.intPending.tail }

/-! ### What follows a trap (60_exceptions.md R620) -/

/-- The data of a running state has the form this model gives it: memory canonical and within the
physical address space, `x[0]` unwritten, the unwritable FCSR bits 0, and so on; every step keeps it. -/
def State.legal (s : State) : Bool :=
  s.mem.wf && s.mem.all (fun c => decide (c.1 < 2 ^ s.cfg.psize)) &&
  rising s.stored && s.stored.all (fun a => decide (a < 2 ^ s.cfg.psize)) &&
  rising s.undefMem &&
  s.undefMem.all (fun a => s.stored.contains a && s.mem.read a == Memory.unlisted) &&
  s.gpr[0] == {} && s.fcsr &&& 0x007c0000 == 0 && (s.bd || s.npc == s.pc + 4) &&
  (!s.llBit || ((s.llAddr.width == 4 || s.llAddr.width == 8) &&
    decide (s.llAddr.pa.toNat < 2 ^ s.cfg.psize))) &&
  (s.gpr.toList ++ s.fgr.toList ++ [s.hi, s.lo]).all (fun c => c.val &&& c.undef == 0) &&
  (s.cfg.fgr64 ||
    (s.fgr.toList.all (fun c => (c.val ||| c.undef) &&& 0xffffffff00000000 == 0) &&
      (List.finRange 32).all (fun n => n.val % 2 == 0 || s.tags[n] == .unknown)))

/-- A trapped machine: terminal, unless a client's `Handler` continues it in a running state of its own
choice. The parameters and the interrupt oracle are not the handler's, and a state that is none of this
machine is not taken (60_exceptions.md R620, R622, log 18). DESIGN CHOICE (log 44): the record of the bytes
the run has stored to is the handler's state's own, so that a handler may keep it or forget it. -/
def State.handle (s : State) : Result :=
  match s.cfg.handler with
  | .default => .fault .trapped
  | .part =>
    match s.handlerOracle with
    | none => .fault .trapped
    | some t =>
      let u := { t with cfg := s.cfg, trap := none, intPending := s.intPending, draws := s.draws + 1 }
      if u.legal then .next u else .fault .trapped

/-- The four bytes put where the next fetch reads, as code no store of the run has written
(log 29). -/
def State.placeWord (s : State) (bs : List Byte) : State :=
  match s.translated s.pc .fetch with
  | .error _ => s
  | .ok (pa, _) =>
    let as := s.physBytes pa 4
    { s with mem := (as.zip bs).foldl (fun m c => m.write c.1 c.2) s.mem
             stored := s.stored.filter (fun a => !as.contains a)
             undefMem := s.undefMem.filter (fun a => !as.contains a)
             trap := none
             intPending := [] }

end Sys2Proof.Machine
end

