-- ==== Sys2Proof/Machine/Operands.lean ====
section
/-! DEFINITION. The operand forms: word values in general registers, the coprocessor 1 general
registers and the floating-point operand registers with their format tags. -/

namespace Sys2Proof.Machine

open Sys2Proof

/-! ### Word values (10_state.md R33, 41_cpu_alu.md R260) -/

/-- Not `NotWordValue(v)`: bits 63..31 are all equal (10_state.md R33). -/
def isWordValue (v : Word) : Bool := (v.setWidth 32).signExtend 64 == v

/-- A 32-bit result as it goes to a register (10_state.md R33). -/
def wordResult (v : BitVec 32) : Word := v.signExtend 64

/-- The low word of a value. -/
def lowWord (v : Word) : BitVec 32 := v.setWidth 32

/-- The low half of a 64-bit pattern. -/
def lowHalf : Word := 0xffffffff

/-- The high half of a 64-bit pattern. -/
def highHalf : Word := 0xffffffff00000000

/-! ### Coprocessor 1 general registers (10_state.md R41) -/

/-- Put a cell into `f[n]`. -/
def State.putF (s : State) (n : RegNum) (c : Reg) : State := { s with fgr := s.fgr.set n.toNat c }

/-- The number of the FPR that contains `f[n]`: with 32-bit registers the even register of the pair
(10_state.md R42). -/
def State.fprIndex (s : State) (n : RegNum) : RegNum := if s.cfg.fgr64 then n else n &&& 30

/-- The format tag of the FPR that contains `f[n]` (10_state.md R43). -/
def State.tag (s : State) (n : RegNum) : Tag := s.tags[(s.fprIndex n).toNat]

/-- Set the format tag of the FPR that contains `f[n]`; with `FPRTags` = bits none is kept
(44_fpu_model.md R432). -/
def State.setTag (s : State) (n : RegNum) (t : Tag) : State :=
  match s.cfg.fprTags with
  | .strict => { s with tags := s.tags.set (s.fprIndex n).toNat t }
  | .bits => s

/-- The low word of `f[n]` as a cell (45_fpu_transfer.md R472, R479). -/
def State.fgrLow (s : State) (n : RegNum) : Reg :=
  let c := s.fgr[n.toNat]
  { val := c.val &&& lowHalf, undef := c.undef &&& lowHalf }

/-- The even/odd pair that `f[n]`, n even, begins, as one 64-bit cell (10_state.md R42). -/
def State.fgrPair (s : State) (n : RegNum) : Reg :=
  let lo := s.fgrLow n
  let hi := s.fgrLow (n ||| 1)
  { val := (hi.val <<< 32) ||| lo.val, undef := (hi.undef <<< 32) ||| lo.undef }

/-- `n` may name an operand that needs a whole FPR (44_fpu_model.md R433). -/
def State.validFpr (s : State) (n : RegNum) : Bool := s.cfg.fgr64 || !(n.getLsbD 0)

/-- The doubleword in FPR `n`; an odd number in the 32-bit model gives `UNDEF_64`
(45_fpu_transfer.md R473, R481). -/
def State.fprDouble (s : State) (n : RegNum) : Reg :=
  if s.cfg.fgr64 then s.fgr[n.toNat]
  else if s.validFpr n then s.fgrPair n
  else Reg.unknown

/-- A word written by a transfer: the rest of a 64-bit register is unspecified, the other register of
a pair is unchanged (45_fpu_transfer.md R470, R480). -/
def State.loadFgrWord (s : State) (n : RegNum) (c : Reg) : State :=
  (s.putF n { val := c.val &&& lowHalf
              undef := (c.undef &&& lowHalf) ||| (if s.cfg.fgr64 then highHalf else 0) }).setTag n
    .uninterpreted

/-- Both registers of the pair that contains `f[n]` become `UNDEF_32`, the tag unknown: an invalid
destination of the 32-bit model (44_fpu_model.md R433, log 26). -/
def State.undefPair (s : State) (n : RegNum) : State :=
  ((s.putF n { val := 0, undef := lowHalf }).putF (n ^^^ 1) { val := 0, undef := lowHalf }).setTag n
    .unknown

/-- A doubleword put into FPR `n`, valid for it: one register, or the low word in the even and the
high word in the odd register of a pair (10_state.md R42). -/
def State.putFprDouble (s : State) (n : RegNum) (c : Reg) : State :=
  if s.cfg.fgr64 then s.putF n c
  else (s.putF n { val := c.val &&& lowHalf, undef := c.undef &&& lowHalf }).putF (n ||| 1)
    { val := c.val >>> 32, undef := c.undef >>> 32 }

/-- A doubleword written by a transfer (45_fpu_transfer.md R471, R482). -/
def State.loadFprDouble (s : State) (n : RegNum) (c : Reg) : State :=
  if s.validFpr n then (s.putFprDouble n c).setTag n .uninterpreted else s.undefPair n

/-! ### Formatted operands (44_fpu_model.md R430 to R433) -/

/-- A format of 64 bits. -/
def isWide : Fmt → Bool
  | .d | .l => true
  | .s | .w => false

/-- The pattern in FPR `n` that `ValueFPR` reads, before the tag rule (44_fpu_model.md R430). -/
def State.fprCell (s : State) (n : RegNum) (fmt : Fmt) : Reg :=
  if s.validFpr n then (if isWide fmt then s.fprDouble n else s.fgrLow n)
  else if isWide fmt then Reg.unknown else { val := 0, undef := lowHalf }

/-- The part of a 64-bit pattern a format uses. -/
def fmtMask (fmt : Fmt) : Word := if isWide fmt then BitVec.allOnes 64 else lowHalf

/-- `ValueFPR(n, fmt)`: the value read through operand field `site`, with the low word of the result
for S and W, and the state after the tag rule (44_fpu_model.md R430, R432, R433). -/
def State.valueFpr (s : State) (site : DrawSite) (n : RegNum) (fmt : Fmt) : Word × State :=
  let bits := (s.fprCell n fmt).read (s.draw site)
  match s.cfg.fprTags with
  | .bits => (bits, s)
  | .strict =>
    if s.validFpr n then
      match s.tag n with
      | .is f =>
        if f = fmt then (bits, s) else (s.draw site &&& fmtMask fmt, s.setTag n .unknown)
      | .uninterpreted => (bits, s.setTag n (.is fmt))
      | .unknown => (s.draw site &&& fmtMask fmt, s)
    else (bits, s)

/-- `StoreFPR(n, fmt, v)` (44_fpu_model.md R431, R433). -/
def State.storeFpr (s : State) (n : RegNum) (fmt : Fmt) (v : Word) : State :=
  if s.validFpr n then
    (if isWide fmt then s.putFprDouble n (Reg.of v)
     else if s.cfg.fgr64 then s.putF n { val := v &&& lowHalf, undef := highHalf }
     else (s.putF n { val := v &&& lowHalf, undef := 0 }).putF (n ||| 1)
       { val := 0, undef := lowHalf }).setTag n (.is fmt)
  else s.undefPair n

end Sys2Proof.Machine
end

