-- ==== Sys2Proof/Machine/Alu.lean ====
section
/-! DEFINITION. The ALU instructions: immediate and three-operand forms (41_cpu_alu.md R260 to
R284). -/

namespace Sys2Proof.Machine

open Sys2Proof

/-- `x[r] <- v`, and the instruction completes. -/
def State.writeX (s : State) (r : RegNum) (v : Word) : Result := .next (s.setX r v).complete

/-- A 32-bit operation: its sign-extended result, or `UNDEF_64` when an operand is no word value
(41_cpu_alu.md R260). -/
def State.writeWord (s : State) (wordValues : Bool) (r : RegNum) (v : BitVec 32) : Result :=
  if wordValues then s.writeX r (wordResult v) else .next (s.undefX r).complete

/-- The exact result `t` fits a signed word (41_cpu_alu.md R315). -/
def fitsWord (t : Int) : Bool := decide (-2 ^ 31 ≤ t) && decide (t ≤ 2 ^ 31 - 1)

/-- The exact result `t` fits a signed doubleword (41_cpu_alu.md R315). -/
def fitsDouble (t : Int) : Bool := decide (-2 ^ 63 ≤ t) && decide (t ≤ 2 ^ 63 - 1)

/-- A 32-bit sum or difference that traps on overflow. With an operand that is no word value a free
draw decides whether the destination becomes `UNDEF_64` or the exception is raised
(41_cpu_alu.md R260, R271, log 13). -/
def State.addWord (s : State) (wordValues : Bool) (r : RegNum) (t : Int) : Result :=
  if wordValues then
    if fitsWord t then s.writeX r (wordResult (BitVec.ofInt 32 t))
    else .next (s.raise .integerOverflow)
  else if s.drawBit .overflow then .next (s.raise .integerOverflow)
  else .next (s.undefX r).complete

/-- A 64-bit sum or difference that traps on overflow (41_cpu_alu.md R275). -/
def State.addDouble (s : State) (r : RegNum) (t : Int) : Result :=
  if fitsDouble t then s.writeX r (BitVec.ofInt 64 t) else .next (s.raise .integerOverflow)

/-- A Boolean as a register value (10_state.md R38). -/
def boolWord (b : Bool) : Word := if b then 1 else 0

/-- Both register operands are word values (41_cpu_alu.md R260). -/
def State.wordOperands (s : State) (rs rt : RegNum) : Bool :=
  isWordValue (s.x .rs rs) && isWordValue (s.x .rt rt)

/-! ### Immediate forms -/

/-- ADDI (41_cpu_alu.md R261). -/
def execAddi (rt rs : RegNum) (imm : BitVec 16) (s : State) : Result :=
  s.addWord (isWordValue (s.x .rs rs)) rt ((lowWord (s.x .rs rs)).toInt + imm.toInt)

/-- ADDIU (41_cpu_alu.md R262). -/
def execAddiu (rt rs : RegNum) (imm : BitVec 16) (s : State) : Result :=
  s.writeWord (isWordValue (s.x .rs rs)) rt (lowWord (s.x .rs rs) + imm.signExtend 32)

/-- SLTI (41_cpu_alu.md R263). -/
def execSlti (rt rs : RegNum) (imm : BitVec 16) (s : State) : Result :=
  s.writeX rt (boolWord ((s.x .rs rs).slt (imm.signExtend 64)))

/-- SLTIU (41_cpu_alu.md R264). -/
def execSltiu (rt rs : RegNum) (imm : BitVec 16) (s : State) : Result :=
  s.writeX rt (boolWord ((s.x .rs rs).ult (imm.signExtend 64)))

/-- ANDI (41_cpu_alu.md R265). -/
def execAndi (rt rs : RegNum) (imm : BitVec 16) (s : State) : Result :=
  s.writeX rt (s.x .rs rs &&& imm.setWidth 64)

/-- ORI (41_cpu_alu.md R266). -/
def execOri (rt rs : RegNum) (imm : BitVec 16) (s : State) : Result :=
  s.writeX rt (s.x .rs rs ||| imm.setWidth 64)

/-- XORI (41_cpu_alu.md R267). -/
def execXori (rt rs : RegNum) (imm : BitVec 16) (s : State) : Result :=
  s.writeX rt (s.x .rs rs ^^^ imm.setWidth 64)

/-- LUI (41_cpu_alu.md R268). -/
def execLui (rt : RegNum) (imm : BitVec 16) (s : State) : Result :=
  s.writeX rt (wordResult (imm ++ 0#16))

/-- DADDI (41_cpu_alu.md R269). -/
def execDaddi (rt rs : RegNum) (imm : BitVec 16) (s : State) : Result :=
  s.addDouble rt ((s.x .rs rs).toInt + imm.toInt)

/-- DADDIU (41_cpu_alu.md R270). -/
def execDaddiu (rt rs : RegNum) (imm : BitVec 16) (s : State) : Result :=
  s.writeX rt (s.x .rs rs + imm.signExtend 64)

/-! ### Three-operand forms -/

/-- ADD (41_cpu_alu.md R271). -/
def execAdd (rd rs rt : RegNum) (s : State) : Result :=
  s.addWord (s.wordOperands rs rt) rd ((lowWord (s.x .rs rs)).toInt + (lowWord (s.x .rt rt)).toInt)

/-- ADDU (41_cpu_alu.md R272). -/
def execAddu (rd rs rt : RegNum) (s : State) : Result :=
  s.writeWord (s.wordOperands rs rt) rd (lowWord (s.x .rs rs) + lowWord (s.x .rt rt))

/-- SUB (41_cpu_alu.md R273). -/
def execSub (rd rs rt : RegNum) (s : State) : Result :=
  s.addWord (s.wordOperands rs rt) rd ((lowWord (s.x .rs rs)).toInt - (lowWord (s.x .rt rt)).toInt)

/-- SUBU (41_cpu_alu.md R274). -/
def execSubu (rd rs rt : RegNum) (s : State) : Result :=
  s.writeWord (s.wordOperands rs rt) rd (lowWord (s.x .rs rs) - lowWord (s.x .rt rt))

/-- DADD (41_cpu_alu.md R275). -/
def execDadd (rd rs rt : RegNum) (s : State) : Result :=
  s.addDouble rd ((s.x .rs rs).toInt + (s.x .rt rt).toInt)

/-- DADDU (41_cpu_alu.md R276). -/
def execDaddu (rd rs rt : RegNum) (s : State) : Result :=
  s.writeX rd (s.x .rs rs + s.x .rt rt)

/-- DSUB (41_cpu_alu.md R277). -/
def execDsub (rd rs rt : RegNum) (s : State) : Result :=
  s.addDouble rd ((s.x .rs rs).toInt - (s.x .rt rt).toInt)

/-- DSUBU (41_cpu_alu.md R278). -/
def execDsubu (rd rs rt : RegNum) (s : State) : Result :=
  s.writeX rd (s.x .rs rs - s.x .rt rt)

/-- SLT (41_cpu_alu.md R279). -/
def execSlt (rd rs rt : RegNum) (s : State) : Result :=
  s.writeX rd (boolWord ((s.x .rs rs).slt (s.x .rt rt)))

/-- SLTU (41_cpu_alu.md R280). -/
def execSltu (rd rs rt : RegNum) (s : State) : Result :=
  s.writeX rd (boolWord ((s.x .rs rs).ult (s.x .rt rt)))

/-- AND (41_cpu_alu.md R281). -/
def execAnd (rd rs rt : RegNum) (s : State) : Result :=
  s.writeX rd (s.x .rs rs &&& s.x .rt rt)

/-- OR (41_cpu_alu.md R282). -/
def execOr (rd rs rt : RegNum) (s : State) : Result :=
  s.writeX rd (s.x .rs rs ||| s.x .rt rt)

/-- XOR (41_cpu_alu.md R283). -/
def execXor (rd rs rt : RegNum) (s : State) : Result :=
  s.writeX rd (s.x .rs rs ^^^ s.x .rt rt)

/-- NOR (41_cpu_alu.md R284). -/
def execNor (rd rs rt : RegNum) (s : State) : Result :=
  s.writeX rd (~~~(s.x .rs rs ||| s.x .rt rt))

end Sys2Proof.Machine
end

