-- ==== Sys2Proof/Machine/Atomic.lean ====
section
/-! DEFINITION. The linked loads and conditional stores (40_cpu_load_store.md R222 to R226). -/

namespace Sys2Proof.Machine

open Sys2Proof

/-- `LLbit <- 1` and `LLaddr` for an access of `n` bytes at `va` (40_cpu_load_store.md R222). -/
def State.setLink (s : State) (va : Word) (n : Nat) : State :=
  match s.translated va .load with
  | .ok (pa, cca) =>
    { s with llBit := true, llAddr := { pa := pa, width := n, cached := cca != .uncached } }
  | .error _ => s

/-- A linked load: unlike the ordinary loads it leaves no draw in `LLbit`
(40_cpu_load_store.md R222, R223, R226). -/
def State.loadLinked (s : State) (va : Word) (n : Nat) (write : State → Word → State) : Result :=
  match s.memRead va n with
  | .error e => .next (s.raise e)
  | .ok v => .next ((write s v).setLink va n).complete

/-- `LLbit` as a store conditional at physical address `pa` finds it: a draw when the address or
width is not that of the linked load, or an access is uncached (40_cpu_load_store.md R226 item 4,
log 24). -/
def State.linkFor (s : State) (pa : Word) (n : Nat) (cca : Cca) : Bool :=
  if s.llBit && !(s.llAddr == { pa := pa, width := n, cached := true } && cca != .uncached) then
    s.drawBit .link
  else s.llBit

/-- A store conditional of the low `n` bytes of `x[rt]`: alignment and translation first, then the
store if `LLbit` is 1, then `x[rt]` says whether it was, and `LLbit` is cleared
(40_cpu_load_store.md R224, R226). -/
def State.storeConditional (s : State) (rt : RegNum) (va : Word) (n : Nat) : Result :=
  if aligned va n then
    match s.translated va .store with
    | .error e => .next (s.raise e)
    | .ok (pa, cca) =>
      if s.linkFor pa n cca then
        match s.memWrite va n (s.x .rt rt) with
        | .error e => .next (s.raise e)
        | .ok s' => .next { s'.setX rt 1 with llBit := false }.complete
      else .next { s.setX rt 0 with llBit := false }.complete
  else .next (s.raise (.addressError va .store))

/-- LL (40_cpu_load_store.md R222). -/
def execLl (rt : RegNum) (offset : BitVec 16) (base : RegNum) (s : State) : Result :=
  offsetCheck offset 2 <|
    s.loadLinked (s.effAddr base offset) 4 fun t v => t.setX rt (wordResult (lowWord v))

/-- LLD (40_cpu_load_store.md R223). -/
def execLld (rt : RegNum) (offset : BitVec 16) (base : RegNum) (s : State) : Result :=
  offsetCheck offset 3 <|
    s.loadLinked (s.effAddr base offset) 8 fun t v => t.setX rt v

/-- SC (40_cpu_load_store.md R224). -/
def execSc (rt : RegNum) (offset : BitVec 16) (base : RegNum) (s : State) : Result :=
  offsetCheck offset 2 <| s.storeConditional rt (s.effAddr base offset) 4

/-- SCD (40_cpu_load_store.md R225). -/
def execScd (rt : RegNum) (offset : BitVec 16) (base : RegNum) (s : State) : Result :=
  offsetCheck offset 3 <| s.storeConditional rt (s.effAddr base offset) 8

end Sys2Proof.Machine
end

