-- ==== Sys2Proof/Machine/Branch.lean ====
section
/-! DEFINITION. The jumps and branches of the CPU (42_cpu_jump_branch.md R340 to R362). -/

namespace Sys2Proof.Machine

open Sys2Proof

/-- A branch or jump in a delay slot is refused (42_cpu_jump_branch.md R342 (c), log 21). -/
def State.branch (s : State) (k : Result) : Result :=
  if s.bd then .refused .branchInDelaySlot else k

/-- The target of a branch: `(pc + 4) + sext_64(offset ++ 00)` (42_cpu_jump_branch.md R341). -/
def State.branchTarget (s : State) (offset : BitVec 16) : Word :=
  s.pc + 4 + (offset ++ 0#2).signExtend 64

/-- The target of J and JAL: `(pc + 4)[63:28] ++ instr_index ++ 00` (42_cpu_jump_branch.md R341). -/
def State.regionTarget (s : State) (target : BitVec 26) : Word :=
  (s.pc + 4).extractLsb' 28 36 ++ target ++ 0#2

/-- The return link, `pc + 8`, written to `x[r]` (42_cpu_jump_branch.md R341). -/
def State.link (s : State) (r : RegNum) : State := s.setX r (s.pc + 8)

/-- A linking branch may not test GPR 31 (42_cpu_jump_branch.md R342 (a), log 21). -/
def linkCheck (rs : RegNum) (k : Result) : Result :=
  if rs = 31 then .refused .linkRegister31 else k

/-- `x[rs] < 0` (42_cpu_jump_branch.md R355). -/
def State.isNeg (s : State) (rs : RegNum) : Bool := (s.x .rs rs).msb

/-- `x[rs] = 0`. -/
def State.isZeroX (s : State) (rs : RegNum) : Bool := s.x .rs rs == 0

/-- `x[rs] = x[rt]`, on all 64 bits. -/
def State.sameX (s : State) (rs rt : RegNum) : Bool := s.x .rs rs == s.x .rt rt

/-! ### Jumps -/

/-- J (42_cpu_jump_branch.md R343). -/
def execJ (target : BitVec 26) (s : State) : Result :=
  s.branch (.next (s.jumpTo true (s.regionTarget target)))

/-- JAL (42_cpu_jump_branch.md R344). -/
def execJal (target : BitVec 26) (s : State) : Result :=
  s.branch (.next ((s.link 31).jumpTo true (s.regionTarget target)))

/-- JR (42_cpu_jump_branch.md R345). -/
def execJr (rs : RegNum) (s : State) : Result :=
  s.branch (.next (s.jumpTo true (s.x .rs rs)))

/-- JALR; rd = rs is refused (42_cpu_jump_branch.md R346, R342 (b)). DESIGN CHOICE (log 41): so is
rd = rs = 0, which R342 (b) calls undefined as rd = rs and allows as rd = 0. -/
def execJalr (rd rs : RegNum) (s : State) : Result :=
  if rd = rs then .refused .jalrSameRegister
  else s.branch (.next ((s.link rd).jumpTo true (s.x .rs rs)))

/-! ### Branches -/

/-- BEQ (42_cpu_jump_branch.md R347). -/
def execBeq (rs rt : RegNum) (offset : BitVec 16) (s : State) : Result :=
  s.branch (.next (s.jumpTo (s.sameX rs rt) (s.branchTarget offset)))

/-- BNE (42_cpu_jump_branch.md R348). -/
def execBne (rs rt : RegNum) (offset : BitVec 16) (s : State) : Result :=
  s.branch (.next (s.jumpTo (!s.sameX rs rt) (s.branchTarget offset)))

/-- BLEZ (42_cpu_jump_branch.md R349). -/
def execBlez (rs : RegNum) (offset : BitVec 16) (s : State) : Result :=
  s.branch (.next (s.jumpTo (s.isNeg rs || s.isZeroX rs) (s.branchTarget offset)))

/-- BGTZ (42_cpu_jump_branch.md R350). -/
def execBgtz (rs : RegNum) (offset : BitVec 16) (s : State) : Result :=
  s.branch (.next (s.jumpTo (!s.isNeg rs && !s.isZeroX rs) (s.branchTarget offset)))

/-- BEQL (42_cpu_jump_branch.md R351). -/
def execBeql (rs rt : RegNum) (offset : BitVec 16) (s : State) : Result :=
  s.branch (.next (s.jumpLikely (s.sameX rs rt) (s.branchTarget offset)))

/-- BNEL (42_cpu_jump_branch.md R352). -/
def execBnel (rs rt : RegNum) (offset : BitVec 16) (s : State) : Result :=
  s.branch (.next (s.jumpLikely (!s.sameX rs rt) (s.branchTarget offset)))

/-- BLEZL (42_cpu_jump_branch.md R353). -/
def execBlezl (rs : RegNum) (offset : BitVec 16) (s : State) : Result :=
  s.branch (.next (s.jumpLikely (s.isNeg rs || s.isZeroX rs) (s.branchTarget offset)))

/-- BGTZL (42_cpu_jump_branch.md R354). -/
def execBgtzl (rs : RegNum) (offset : BitVec 16) (s : State) : Result :=
  s.branch (.next (s.jumpLikely (!s.isNeg rs && !s.isZeroX rs) (s.branchTarget offset)))

/-- BLTZ (42_cpu_jump_branch.md R355). -/
def execBltz (rs : RegNum) (offset : BitVec 16) (s : State) : Result :=
  s.branch (.next (s.jumpTo (s.isNeg rs) (s.branchTarget offset)))

/-- BGEZ (42_cpu_jump_branch.md R356). -/
def execBgez (rs : RegNum) (offset : BitVec 16) (s : State) : Result :=
  s.branch (.next (s.jumpTo (!s.isNeg rs) (s.branchTarget offset)))

/-- BLTZAL (42_cpu_jump_branch.md R357). -/
def execBltzal (rs : RegNum) (offset : BitVec 16) (s : State) : Result :=
  linkCheck rs <|
    s.branch (.next ((s.link 31).jumpTo (s.isNeg rs) (s.branchTarget offset)))

/-- BGEZAL (42_cpu_jump_branch.md R358). -/
def execBgezal (rs : RegNum) (offset : BitVec 16) (s : State) : Result :=
  linkCheck rs <|
    s.branch (.next ((s.link 31).jumpTo (!s.isNeg rs) (s.branchTarget offset)))

/-- BLTZL (42_cpu_jump_branch.md R359). -/
def execBltzl (rs : RegNum) (offset : BitVec 16) (s : State) : Result :=
  s.branch (.next (s.jumpLikely (s.isNeg rs) (s.branchTarget offset)))

/-- BGEZL (42_cpu_jump_branch.md R360). -/
def execBgezl (rs : RegNum) (offset : BitVec 16) (s : State) : Result :=
  s.branch (.next (s.jumpLikely (!s.isNeg rs) (s.branchTarget offset)))

/-- BLTZALL (42_cpu_jump_branch.md R361). -/
def execBltzall (rs : RegNum) (offset : BitVec 16) (s : State) : Result :=
  linkCheck rs <|
    s.branch (.next ((s.link 31).jumpLikely (s.isNeg rs) (s.branchTarget offset)))

/-- BGEZALL (42_cpu_jump_branch.md R362). -/
def execBgezall (rs : RegNum) (offset : BitVec 16) (s : State) : Result :=
  linkCheck rs <|
    s.branch (.next ((s.link 31).jumpLikely (!s.isNeg rs) (s.branchTarget offset)))

end Sys2Proof.Machine
end

