-- ==== Sys2Proof/Machine/Flags.lean ====
section
/-! DEFINITION. The FPU Control and Status Register: its fields (10_state.md R46 to R54), the set of
raised conditions, and `FPResult`, how an FPU arithmetic instruction finishes
(44_fpu_model.md R444). -/

namespace Sys2Proof.Machine

open Sys2Proof

/-- A set of FPU conditions, in the order of the cause field: E V Z O U I (10_state.md R46). -/
abbrev Conds := BitVec 6

/-- No condition. -/
def condNone : Conds := 0b000000#6
/-- Unimplemented Operation. -/
def condE : Conds := 0b100000#6
/-- Invalid Operation. -/
def condV : Conds := 0b010000#6
/-- Divide by Zero. -/
def condZ : Conds := 0b001000#6
/-- Overflow. -/
def condO : Conds := 0b000100#6
/-- Underflow. -/
def condU : Conds := 0b000010#6
/-- Inexact. -/
def condI : Conds := 0b000001#6

/-- The bit of FCSR that holds `FCC[cc]` (10_state.md R48). -/
def fccBit (cc : BitVec 3) : Nat := if cc = 0 then 23 else 24 + cc.toNat

/-- `FCC[cc]` (10_state.md R48). -/
def State.fcc (s : State) (cc : BitVec 3) : Bool := s.fcsr.getLsbD (fccBit cc)

/-- `FCC[cc] <- b` (46_fpu_arith.md R514). -/
def State.setFcc (s : State) (cc : BitVec 3) (b : Bool) : State :=
  { s with fcsr :=
      (s.fcsr &&& ~~~(1#32 <<< fccBit cc)) ||| ((if b then 1#32 else 0#32) <<< fccBit cc) }

/-- The condition signals `COC[0..3]`: `COC[1]` is `FCC[0]`, the others are inputs of the machine
(10_state.md R40, log 34). -/
def State.coc (s : State) : Fin 4 → Bool
  | 0 => s.cfg.coc0
  | 1 => s.fcc 0
  | 2 => s.cfg.coc2
  | 3 => s.cfg.coc3

/-- FS, bit 24 (10_state.md R49). -/
def fcsrFlush (f : BitVec 32) : Bool := f.getLsbD 24

/-- The cause field, bits 17..12 (10_state.md R50). -/
def fcsrCause (f : BitVec 32) : Conds := f.extractLsb' 12 6

/-- The enables, bits 11..7, as conditions: E has none (10_state.md R51). -/
def fcsrEnables (f : BitVec 32) : Conds := 0#1 ++ f.extractLsb' 7 5

/-- The flags, bits 6..2, as conditions: E has none (10_state.md R52). -/
def fcsrFlags (f : BitVec 32) : Conds := 0#1 ++ f.extractLsb' 2 5

/-- RM, bits 1..0 (10_state.md R53). -/
def fcsrRm (f : BitVec 32) : BitVec 2 := f.extractLsb' 0 2

/-- All six cause bits are rewritten (44_fpu_model.md R444). -/
def setCause (f : BitVec 32) (c : Conds) : BitVec 32 :=
  (f &&& ~~~0x3f000#32) ||| (c.setWidth 32 <<< 12)

/-- The flags of the five IEEE conditions raised are set, the others unchanged
(44_fpu_model.md R444). -/
def addFlags (f : BitVec 32) (c : Conds) : BitVec 32 :=
  f ||| ((c &&& 0b011111#6).setWidth 32 <<< 2)

/-- Conditions that trap: E always, the others when enabled (10_state.md R51, 44_fpu_model.md R444). -/
def fpTraps (f : BitVec 32) (c : Conds) : Bool :=
  c.getLsbD 5 || (c &&& fcsrEnables f) != 0

/-- The predicate `Unimpl` claims the operation: never by default, or as the part has it
(44_fpu_model.md R442, log 16). -/
def State.claimed (s : State) (op : FpOp) (fmt : Fmt) (a b d : Word) : Bool :=
  match s.cfg.unimpl with
  | .default => false
  | .part => Config.unimplOracle op fmt a b d s.fcsr

/-- `FPResult`: `s` is the state before the instruction, `s'` the state with its operands read. On a
trap only the cause bits are written (44_fpu_model.md R444, 60_exceptions.md R620, log 25). -/
def State.fpResult (s s' : State) (c : Conds) (write : State → State) : Result :=
  .next
    (if fpTraps s.fcsr c then { s with fcsr := setCause s.fcsr c }.raise .floatingPoint
     else (write { s' with fcsr := addFlags (setCause s'.fcsr c) c }).complete)

/-- The writable bits of FCSR: all but 22..18 (10_state.md R46, 45_fpu_transfer.md R484). -/
def fcsrWritable : BitVec 32 := 0xff83ffff

end Sys2Proof.Machine
end

