-- ==== Sys2Proof/Machine/FpNumber.lean ====
section
/-! DEFINITION. Floating-point arithmetic on bit patterns: the numbers the formats hold, exact
intermediate values, rounding with its conditions, and the result and conditions of every FPU
operation (44_fpu_model.md R421 to R461, 46_fpu_arith.md, 47_fpu_convert_move_branch.md). -/

namespace Sys2Proof.Machine

open Sys2Proof

/-! ### Formats and patterns (44_fpu_model.md R422 to R426) -/

/-- Precision in bits, the leading bit included. -/
def fmtPrec : Fmt → Nat
  | .s => 24
  | .d => 53
  | .w => 32
  | .l => 64

/-- E_max of a floating-point format; the bias of its exponent is the same number
(44_fpu_model.md R422, R423). -/
def fmtEmax : Fmt → Nat
  | .s => 127
  | _ => 1023

/-- E_min. -/
def fmtEmin (fmt : Fmt) : Int := 1 - (fmtEmax fmt : Int)

/-- The number of exponent bits. -/
def fmtExpBits : Fmt → Nat
  | .s => 8
  | _ => 11

/-- What a pattern of a floating-point format stands for: `fin` is (-1)^neg * mant * 2^exp. -/
inductive Num where
  | nan (signaling : Bool)
  | inf (neg : Bool)
  | fin (neg : Bool) (mant : Nat) (exp : Int)
  deriving DecidableEq, Repr

/-- The sign bit of a pattern. -/
def signBit (fmt : Fmt) (v : Word) : Bool := v.getLsbD (if isWide fmt then 63 else 31)

/-- The fraction field. -/
def fracField (fmt : Fmt) (v : Word) : Nat := v.toNat % 2 ^ (fmtPrec fmt - 1)

/-- The biased exponent field. -/
def expField (fmt : Fmt) (v : Word) : Nat := v.toNat / 2 ^ (fmtPrec fmt - 1) % 2 ^ fmtExpBits fmt

/-- The number a pattern stands for; a NaN whose most significant fraction bit is 1 is signaling
(44_fpu_model.md R422, R423, R425). -/
def decodeNum (fmt : Fmt) (v : Word) : Num :=
  let p := fmtPrec fmt
  let e := expField fmt v
  let f := fracField fmt v
  if e = 2 ^ fmtExpBits fmt - 1 then
    if f = 0 then .inf (signBit fmt v) else .nan (decide (2 ^ (p - 2) ≤ f))
  else if e = 0 then .fin (signBit fmt v) f (fmtEmin fmt - ((p : Int) - 1))
  else .fin (signBit fmt v) (f + 2 ^ (p - 1)) ((e : Int) - fmtEmax fmt - ((p : Int) - 1))

/-- The pattern with a given sign and magnitude bits. -/
def packSign (fmt : Fmt) (neg : Bool) (mag : Nat) : Word :=
  BitVec.ofNat 64 (if neg then mag + (if isWide fmt then 2 ^ 63 else 2 ^ 31) else mag)

/-- The magnitude bits of infinity. -/
def infMag (fmt : Fmt) : Nat := (2 ^ fmtExpBits fmt - 1) * 2 ^ (fmtPrec fmt - 1)

/-- A signed infinity. -/
def fpInf (fmt : Fmt) (neg : Bool) : Word := packSign fmt neg (infMag fmt)

/-- A signed zero. -/
def fpZero (fmt : Fmt) (neg : Bool) : Word := packSign fmt neg 0

/-- The largest finite number of a format, signed (44_fpu_model.md R450). -/
def fpMaxFinite (fmt : Fmt) (neg : Bool) : Word := packSign fmt neg (infMag fmt - 1)

/-- ±2^E_min. -/
def fpMinNormal (fmt : Fmt) (neg : Bool) : Word := packSign fmt neg (2 ^ (fmtPrec fmt - 1))

/-- `DefaultQNaN(fmt)` (44_fpu_model.md R426). -/
def defaultQNaN : Fmt → Word
  | .s => 0x7fbfffff
  | .d => 0x7ff7ffffffffffff
  | .w => 0x7fffffff
  | .l => 0x7fffffffffffffff

/-! ### Rounding (44_fpu_model.md R446 to R450, R455) -/

/-- The number of bits of a natural number. -/
def bitLength (n : Nat) : Nat := if n = 0 then 0 else Nat.log2 n + 1

/-- Whether rounding in mode `rm` goes up from the truncated magnitude `n` (10_state.md R53). `rem`,
together with `rest`, is what lies beyond `n`, in units of which `half` is one half. -/
def roundsUp (rm : BitVec 2) (neg : Bool) (n rem half : Nat) (rest : Bool) : Bool :=
  match rm with
  | 0#2 => decide (half < rem) || (decide (rem = half) && (rest || n % 2 == 1))
  | 1#2 => false
  | 2#2 => !neg && (decide (rem ≠ 0) || rest)
  | 3#2 => neg && (decide (rem ≠ 0) || rest)

/-- Round the magnitude mant * 2^exp (plus something strictly between 0 and 2^exp when `rest`) to a
multiple of 2^q: the multiple, and whether it differs from the exact value. -/
def roundAt (rm : BitVec 2) (neg : Bool) (mant : Nat) (exp : Int) (rest : Bool) (q : Int) :
    Nat × Bool :=
  if q ≤ exp then (mant <<< (exp - q).toNat, rest)
  else
    let k := (q - exp).toNat
    let n := mant >>> k
    let rem := mant % 2 ^ k
    (if roundsUp rm neg n rem (2 ^ (k - 1)) rest then n + 1 else n, decide (rem ≠ 0) || rest)

/-- The default result of an overflow (44_fpu_model.md R450). -/
def overflowResult (fmt : Fmt) (rm : BitVec 2) (neg : Bool) : Word :=
  match rm with
  | 0#2 => fpInf fmt neg
  | 1#2 => fpMaxFinite fmt neg
  | 2#2 => if neg then fpMaxFinite fmt true else fpInf fmt false
  | 3#2 => if neg then fpInf fmt true else fpMaxFinite fmt false

/-- `FlushResult(rm, sign)` (44_fpu_model.md R447, log 17). -/
def flushResult (c : Config) (fmt : Fmt) (rm : BitVec 2) (neg : Bool) : Word :=
  if c.flushToMin.contains (rm, neg) then fpMinNormal fmt neg else fpZero fmt neg

/-- The delivery of a nonzero exact value: (-1)^neg * mant * 2^exp, plus a part strictly between 0
and 2^exp of that sign when `rest` (44_fpu_model.md R455). With `rest`, `mant` must have more than
`fmtPrec fmt` + 1 bits. -/
def roundNonzero (c : Config) (fcsr : BitVec 32) (fmt : Fmt) (neg : Bool) (mant : Nat) (exp : Int)
    (rest : Bool) : Word × Conds :=
  let rm := fcsrRm fcsr
  let p := fmtPrec fmt
  let e := exp + bitLength mant - 1
  let (n, inexact) := roundAt rm neg mant exp rest (e - (p - 1))
  let e' := if n = 2 ^ p then e + 1 else e
  if (fmtEmax fmt : Int) < e' then (overflowResult fmt rm neg, condO ||| condI)
  else if e' < fmtEmin fmt then
    let (n', inexact') := roundAt rm neg mant exp rest (fmtEmin fmt - (p - 1))
    if fcsrFlush fcsr && n' != 0 then (flushResult c fmt rm neg, condU ||| condI)
    else
      (packSign fmt neg n',
       (if inexact' || (fcsrEnables fcsr &&& condU) != 0 then condU else condNone) |||
       (if inexact' then condI else condNone))
  else
    (packSign fmt neg
      ((e' + fmtEmax fmt - 1).toNat * 2 ^ (p - 1) + if n = 2 ^ p then 2 ^ (p - 1) else n),
     if inexact then condI else condNone)

/-- `Round`, with the sign a zero result has (44_fpu_model.md R455, R461). -/
def roundValue (c : Config) (fcsr : BitVec 32) (fmt : Fmt) (neg : Bool) (mant : Nat) (exp : Int)
    (rest : Bool) : Word × Conds :=
  if mant = 0 then (fpZero fmt neg, condNone) else roundNonzero c fcsr fmt neg mant exp rest

/-! ### NaN operands (44_fpu_model.md R443, R456) -/

/-- A pattern is a quiet NaN of a format. -/
def isQuietNaN (fmt : Fmt) (v : Word) : Bool := decide (decodeNum fmt v = .nan false)

/-- `QNaNOf`: the default, or a part's choice, which is constrained to be a quiet NaN of the result
format (44_fpu_model.md R456, log 16). -/
def quietNaNOf (c : Config) (op : FpOp) (dst : Fmt) (a b d : Word) : Word :=
  match c.qnan with
  | .default => defaultQNaN dst
  | .part =>
    let v := Config.qnanOracle op dst a b d &&& fmtMask dst
    if isQuietNaN dst v then v else defaultQNaN dst

/-- One number of the list is a signaling NaN. -/
def anySignaling (ns : List Num) : Bool := ns.any fun n => decide (n = .nan true)

/-- One number of the list is a NaN. -/
def anyNaN (ns : List Num) : Bool :=
  ns.any fun n => match n with
    | .nan _ => true
    | _ => false

/-- The NaN rule that comes before every case analysis (46_fpu_arith.md, common step 4); `otherwise`
is that analysis. DESIGN CHOICE (log 42): a signaling NaN gives `DefaultQNaN` also where a part has a
`QNaNOf` of its own. -/
def nanRule (c : Config) (op : FpOp) (dst : Fmt) (ns : List Num) (a b d : Word)
    (otherwise : Word × Conds) : Word × Conds :=
  if anySignaling ns then (defaultQNaN dst, condV)
  else if anyNaN ns then (quietNaNOf c op dst a b d, condNone)
  else otherwise

/-- An invalid operation's default result (44_fpu_model.md R443). DESIGN CHOICE (log 42): it is
`DefaultQNaN` also where a part has a `QNaNOf` of its own. -/
def invalidResult (dst : Fmt) : Word × Conds := (defaultQNaN dst, condV)

/-! ### The IEEE operations (46_fpu_arith.md R500 to R506) -/

/-- A signed magnitude as an integer, in units of 2^q, q not above `exp`. -/
def scaled (neg : Bool) (mant : Nat) (exp q : Int) : Int :=
  let m : Int := (mant <<< (exp - q).toNat : Nat)
  if neg then -m else m

/-- The sum of two numbers that are no NaN (46_fpu_arith.md R500, 44_fpu_model.md R461). -/
def addNum (c : Config) (fcsr : BitVec 32) (fmt : Fmt) (x y : Num) : Word × Conds :=
  match x, y with
  | .inf s, .inf t => if s = t then (fpInf fmt s, condNone) else invalidResult fmt
  | .inf s, _ => (fpInf fmt s, condNone)
  | _, .inf t => (fpInf fmt t, condNone)
  | .fin s m e, .fin t n f =>
    let q := min e f
    let sum := scaled s m e q + scaled t n f q
    let neg := if sum = 0 then (if s = t then s else fcsrRm fcsr == 3#2) else decide (sum < 0)
    roundValue c fcsr fmt neg sum.natAbs q false
  | _, _ => invalidResult fmt

/-- A number with its sign inverted. -/
def negNum : Num → Num
  | .nan q => .nan q
  | .inf s => .inf !s
  | .fin s m e => .fin (!s) m e

/-- The exact product of two numbers that are no NaN; none for zero times infinity
(46_fpu_arith.md R502). -/
def mulExact (x y : Num) : Option Num :=
  match x, y with
  | .fin s m e, .fin t n f => some (.fin (s ^^ t) (m * n) (e + f))
  | .inf s, .inf t => some (.inf (s ^^ t))
  | .inf s, .fin t n _ => if n = 0 then none else some (.inf (s ^^ t))
  | .fin s m _, .inf t => if m = 0 then none else some (.inf (s ^^ t))
  | _, _ => none

/-- A number that is no NaN, delivered in a format (44_fpu_model.md R455). -/
def roundNum (c : Config) (fcsr : BitVec 32) (fmt : Fmt) (x : Num) : Word × Conds :=
  match x with
  | .nan _ => invalidResult fmt
  | .inf s => (fpInf fmt s, condNone)
  | .fin s m e => roundValue c fcsr fmt s m e false

/-- The product of two numbers that are no NaN (46_fpu_arith.md R502). -/
def mulNum (c : Config) (fcsr : BitVec 32) (fmt : Fmt) (x y : Num) : Word × Conds :=
  match mulExact x y with
  | none => invalidResult fmt
  | some z => roundNum c fcsr fmt z

/-- The quotient of two numbers that are no NaN (46_fpu_arith.md R503, 44_fpu_model.md R445). -/
def divNum (c : Config) (fcsr : BitVec 32) (fmt : Fmt) (x y : Num) : Word × Conds :=
  match x, y with
  | .inf _, .inf _ => invalidResult fmt
  | .inf s, .fin t _ _ => (fpInf fmt (s ^^ t), condNone)
  | .fin s _ _, .inf t => (fpZero fmt (s ^^ t), condNone)
  | .fin s m e, .fin t n f =>
    if n = 0 then (if m = 0 then invalidResult fmt else (fpInf fmt (s ^^ t), condZ))
    else if m = 0 then (fpZero fmt (s ^^ t), condNone)
    else
      let k := fmtPrec fmt + 3 + bitLength n
      roundValue c fcsr fmt (s ^^ t) ((m <<< k) / n) (e - f - k) (decide ((m <<< k) % n ≠ 0))
  | _, _ => invalidResult fmt

/-- The integer square root of `n`, found bit by bit from bit `k - 1` down, above the part `r`
already found. -/
def sqrtFrom (n : Nat) : Nat → Nat → Nat
  | 0, r => r
  | k + 1, r => if (r + 2 ^ k) * (r + 2 ^ k) ≤ n then sqrtFrom n k (r + 2 ^ k) else sqrtFrom n k r

/-- The integer square root. -/
def intSqrt (n : Nat) : Nat := sqrtFrom n (bitLength n / 2 + 1) 0

/-- mant * 2^exp written as m * 2^(2 * h), with m at least 2^(2 * k): `m` and `h`. -/
def evenScale (mant : Nat) (exp : Int) (k : Nat) : Nat × Int :=
  if exp % 2 = 0 then (mant <<< (2 * k), exp / 2 - k)
  else (mant <<< (2 * k + 1), (exp - 1) / 2 - k)

/-- The square root of a number that is no NaN (46_fpu_arith.md R504). -/
def sqrtNum (c : Config) (fcsr : BitVec 32) (fmt : Fmt) (x : Num) : Word × Conds :=
  match x with
  | .nan _ => invalidResult fmt
  | .inf s => if s then invalidResult fmt else (fpInf fmt false, condNone)
  | .fin s m e =>
    if m = 0 then (fpZero fmt s, condNone)
    else if s then invalidResult fmt
    else
      let (m', h) := evenScale m e (fmtPrec fmt + 3)
      let r := intSqrt m'
      roundValue c fcsr fmt false r h (decide (r * r ≠ m'))

/-! ### The approximate operations (44_fpu_model.md R458, 46_fpu_arith.md R507, R508) -/

/-- `Round(fmt, rm, 1/sqrt(mant * 2^exp))`. The quotient 2^j / sqrt(m) is found as the integer square
root of 2^(2j) / m. -/
def rsqrtExact (c : Config) (fcsr : BitVec 32) (fmt : Fmt) (mant : Nat) (exp : Int) : Word × Conds :=
  let (m, h) := evenScale mant exp 0
  let j := fmtPrec fmt + 3 + bitLength m
  let t := 2 ^ (2 * j) / m
  let r := intSqrt t
  roundValue c fcsr fmt false r (-h - j) (decide (r * r * m ≠ 2 ^ (2 * j)))

/-- Compare two positive values m * 2^e and n * 2^f: the first is not above the second. -/
def leScaled (m : Nat) (e : Int) (n : Nat) (f : Int) : Bool :=
  let q := min e f
  decide (m <<< (e - q).toNat ≤ n <<< (f - q).toNat)

/-- The candidate magnitude n * 2^f lies within 2^q of 1 / (m * 2^e) (log 33). -/
def recipNear (n : Nat) (f : Int) (m : Nat) (e q : Int) : Bool :=
  let u := min f q
  let n' := n <<< (f - u).toNat
  let d := 1 <<< (q - u).toNat
  leScaled ((n' - d) * m) (u + e) 1 0 && leScaled 1 0 ((n' + d) * m) (u + e)

/-- The candidate magnitude n * 2^f lies within 2 * 2^q of 1 / sqrt(m * 2^e) (log 33). -/
def rsqrtNear (n : Nat) (f : Int) (m : Nat) (e q : Int) : Bool :=
  let u := min f q
  let n' := n <<< (f - u).toNat
  let d := 2 <<< (q - u).toNat
  leScaled ((n' - d) * (n' - d) * m) (2 * u + e) 1 0 &&
    leScaled 1 0 ((n' + d) * (n' + d) * m) (2 * u + e)

/-- The exponent of the last place of a pattern: a denormalized number has that of E_min, an infinity
that of E_max (log 33). -/
def ulpExp (fmt : Fmt) (v : Word) : Int :=
  ((min (max (expField fmt v) 1) (2 ^ fmtExpBits fmt - 2) : Nat) : Int) - fmtEmax fmt -
    ((fmtPrec fmt : Int) - 1)

/-- The magnitude n * 2^f a part's candidate stands for; an infinity stands for 2^(E_max + 1), the
least magnitude that overflows (log 33). -/
def candidateMag (fmt : Fmt) (v : Word) : Option (Nat × Int) :=
  match decodeNum fmt v with
  | .nan _ => none
  | .inf _ => some (1, (fmtEmax fmt : Int) + 1)
  | .fin _ n f => some (n, f)

/-- The delivery of a part's own approximate value (-1)^neg * n * 2^f: an overflow, a denormalized value
and the flush to zero are treated as `Round` treats them, and Inexact, with Underflow for a tiny value,
is raised when the value is not the exact one (44_fpu_model.md R447, R450, R455, R458). -/
def deliverApprox (c : Config) (fcsr : BitVec 32) (fmt : Fmt) (neg : Bool) (n : Nat) (f : Int)
    (exact tiny : Bool) : Word × Conds :=
  let r := roundValue c fcsr fmt neg n f false
  (r.1, r.2 ||| (if exact then condNone else if tiny then condU ||| condI else condI))

/-- A part's own approximate result, taken where it keeps the error bound of 44_fpu_model.md R458, for
normal, denormalized and overflowing results alike (log 33): `near` is the bound for a candidate
magnitude and the exponent of a last place, `exact` says that the candidate is the exact result. A
candidate outside the bound is no such result, and the correctly rounded one stands. -/
def approxResult (c : Config) (fcsr : BitVec 32) (fmt : Fmt) (neg : Bool) (rounded : Word × Conds)
    (candidate : Word) (near : Nat → Int → Int → Bool) (exact : Nat → Int → Bool) : Word × Conds :=
  let v := candidate &&& fmtMask fmt
  match candidateMag fmt v with
  | none => rounded
  | some (n, f) =>
    if signBit fmt v == neg && near n f (ulpExp fmt rounded.1) then
      deliverApprox c fcsr fmt neg n f (exact n f) (expField fmt v == 0)
    else rounded

/-- n * 2^f * m * 2^e = 1. -/
def productIsOne (n : Nat) (f : Int) (m : Nat) (e : Int) : Bool :=
  leScaled (n * m) (f + e) 1 0 && leScaled 1 0 (n * m) (f + e)

/-- RECIP of a number that is no NaN (46_fpu_arith.md R507); `a` is its pattern. -/
def recipNum (c : Config) (fcsr : BitVec 32) (fmt : Fmt) (a : Word) (x : Num) : Word × Conds :=
  match x with
  | .nan _ => invalidResult fmt
  | .inf s => (fpZero fmt s, condNone)
  | .fin s m e =>
    if m = 0 then (fpInf fmt s, condZ)
    else
      let rounded := divNum c fcsr fmt (.fin false 1 0) x
      match c.recip with
      | .default => rounded
      | .part =>
        approxResult c fcsr fmt s rounded (Config.recipOracle fmt (fcsrRm fcsr) a)
          (fun n f q => recipNear n f m e q) (fun n f => productIsOne n f m e)

/-- RSQRT of a number that is no NaN (46_fpu_arith.md R508); `a` is its pattern. -/
def rsqrtNum (c : Config) (fcsr : BitVec 32) (fmt : Fmt) (a : Word) (x : Num) : Word × Conds :=
  match x with
  | .nan _ => invalidResult fmt
  | .inf s => if s then invalidResult fmt else (fpZero fmt false, condNone)
  | .fin s m e =>
    if m = 0 then (fpInf fmt s, condZ)
    else if s then invalidResult fmt
    else
      let rounded := rsqrtExact c fcsr fmt m e
      match c.rsqrt with
      | .default => rounded
      | .part =>
        approxResult c fcsr fmt false rounded (Config.rsqrtOracle fmt (fcsrRm fcsr) a)
          (fun n f q => rsqrtNear n f m e q) (fun n f => productIsOne (n * n) (2 * f) m e)

/-! ### The operations on patterns -/

/-- ADD.fmt (46_fpu_arith.md R500). -/
def fpAdd (c : Config) (fcsr : BitVec 32) (fmt : Fmt) (a b : Word) : Word × Conds :=
  let x := decodeNum fmt a
  let y := decodeNum fmt b
  nanRule c .add fmt [x, y] a b 0 (addNum c fcsr fmt x y)

/-- SUB.fmt (46_fpu_arith.md R501). -/
def fpSub (c : Config) (fcsr : BitVec 32) (fmt : Fmt) (a b : Word) : Word × Conds :=
  let x := decodeNum fmt a
  let y := decodeNum fmt b
  nanRule c .sub fmt [x, y] a b 0 (addNum c fcsr fmt x (negNum y))

/-- MUL.fmt (46_fpu_arith.md R502). -/
def fpMul (c : Config) (fcsr : BitVec 32) (fmt : Fmt) (a b : Word) : Word × Conds :=
  let x := decodeNum fmt a
  let y := decodeNum fmt b
  nanRule c .mul fmt [x, y] a b 0 (mulNum c fcsr fmt x y)

/-- DIV.fmt (46_fpu_arith.md R503). -/
def fpDiv (c : Config) (fcsr : BitVec 32) (fmt : Fmt) (a b : Word) : Word × Conds :=
  let x := decodeNum fmt a
  let y := decodeNum fmt b
  nanRule c .div fmt [x, y] a b 0 (divNum c fcsr fmt x y)

/-- SQRT.fmt (46_fpu_arith.md R504). -/
def fpSqrt (c : Config) (fcsr : BitVec 32) (fmt : Fmt) (a : Word) : Word × Conds :=
  let x := decodeNum fmt a
  nanRule c .sqrt fmt [x] a 0 0 (sqrtNum c fcsr fmt x)

/-- The sign bit of a format, in place. -/
def signMask (fmt : Fmt) : Word := if isWide fmt then 0x8000000000000000 else 0x80000000

/-- ABS.fmt (46_fpu_arith.md R505). DESIGN CHOICE (log 43): a denormalized operand is no tiny result, so
that it is not flushed and raises no Underflow. -/
def fpAbs (c : Config) (fmt : Fmt) (a : Word) : Word × Conds :=
  nanRule c .abs fmt [decodeNum fmt a] a 0 0 (a &&& ~~~signMask fmt, condNone)

/-- NEG.fmt (46_fpu_arith.md R506). DESIGN CHOICE (log 43): as for ABS, a denormalized operand is no tiny
result. -/
def fpNeg (c : Config) (fmt : Fmt) (a : Word) : Word × Conds :=
  nanRule c .neg fmt [decodeNum fmt a] a 0 0 (a ^^^ signMask fmt, condNone)

/-- RECIP.fmt (46_fpu_arith.md R507). -/
def fpRecip (c : Config) (fcsr : BitVec 32) (fmt : Fmt) (a : Word) : Word × Conds :=
  let x := decodeNum fmt a
  nanRule c .recip fmt [x] a 0 0 (recipNum c fcsr fmt a x)

/-- RSQRT.fmt (46_fpu_arith.md R508). -/
def fpRsqrt (c : Config) (fcsr : BitVec 32) (fmt : Fmt) (a : Word) : Word × Conds :=
  let x := decodeNum fmt a
  nanRule c .rsqrt fmt [x] a 0 0 (rsqrtNum c fcsr fmt a x)

/-- The negation of NMADD and NMSUB: the sign bit of the result is inverted; that of a NaN only where
the part's `QNaNOf` does so (46_fpu_arith.md R513, 92_eei_decisions.md D14, log 16). -/
def negResult (c : Config) (op : FpOp) (fmt : Fmt) (d a b : Word) (r : Word × Conds) : Word × Conds :=
  let flipped := (r.1 ^^^ signMask fmt, r.2)
  match decodeNum fmt r.1 with
  | .nan _ =>
    match c.qnan with
    | .default => r
    | .part => if Config.nanNegOracle op fmt d a b then flipped else r
  | _ => flipped

/-- The product and sum of the multiply-accumulate instructions on numbers that are no NaN, in the
two arithmetic models (44_fpu_model.md R459, 46_fpu_arith.md R513, log 38). -/
def maddNum (c : Config) (fcsr : BitVec 32) (fmt : Fmt) (x y z : Num) : Word × Conds :=
  match mulExact x y with
  | none => invalidResult fmt
  | some p =>
    match c.madd with
    | .unrounded => addNum c fcsr fmt p z
    | .rounded =>
      let r := roundNum c fcsr fmt p
      let t := addNum c fcsr fmt (decodeNum fmt r.1) z
      (t.1, r.2 ||| t.2)

/-- MADD, MSUB, NMADD, NMSUB: `a` times `b` plus or minus `d`, perhaps negated
(46_fpu_arith.md R513). -/
def fpMadd (c : Config) (fcsr : BitVec 32) (op : FpOp) (sub neg : Bool) (fmt : Fmt) (d a b : Word) :
    Word × Conds :=
  let x := decodeNum fmt a
  let y := decodeNum fmt b
  let z := decodeNum fmt d
  let r := nanRule c op fmt [z, x, y] d a b (maddNum c fcsr fmt x y (if sub then negNum z else z))
  if neg then negResult c op fmt d a b r else r

/-! ### Compare (46_fpu_arith.md R514) -/

/-- `a < b` of two numbers that are no NaN. -/
def ltNum (x y : Num) : Bool :=
  match x, y with
  | .inf s, .inf t => s && !t
  | .inf s, .fin .. => s
  | .fin .., .inf t => !t
  | .fin s m e, .fin t n f => decide (scaled s m e (min e f) < scaled t n f (min e f))
  | _, _ => false

/-- `a = b` of two numbers that are no NaN; -0 = +0. -/
def eqNum (x y : Num) : Bool :=
  match x, y with
  | .inf s, .inf t => s == t
  | .fin s m e, .fin t n f => decide (scaled s m e (min e f) = scaled t n f (min e f))
  | _, _ => false

/-- C.cond.fmt: the condition and the conditions raised (46_fpu_arith.md R514). -/
def fpCompare (cond : BitVec 4) (fmt : Fmt) (a b : Word) : Bool × Conds :=
  let x := decodeNum fmt a
  let y := decodeNum fmt b
  if anyNaN [x, y] then
    (cond.getLsbD 0, if anySignaling [x, y] || cond.getLsbD 3 then condV else condNone)
  else ((cond.getLsbD 2 && ltNum x y) || (cond.getLsbD 1 && eqNum x y), condNone)

/-! ### Conversions (44_fpu_model.md R460, 47_fpu_convert_move_branch.md R540 to R552) -/

/-- The integer a W or L pattern stands for (44_fpu_model.md R424). -/
def fixedValue (fmt : Fmt) (v : Word) : Int :=
  if isWide fmt then v.toInt else (v.setWidth 32).toInt

/-- An integer in the range of W or L (44_fpu_model.md R424). -/
def inFixedRange (dst : Fmt) (n : Int) : Bool :=
  decide (-(2 ^ (fmtPrec dst - 1)) ≤ n) && decide (n < 2 ^ (fmtPrec dst - 1))

/-- `ToFixed(src, dst, rm, a)` (44_fpu_model.md R460). -/
def fpToFixed (rm : BitVec 2) (src dst : Fmt) (a : Word) : Word × Conds :=
  match decodeNum src a with
  | .fin s m e =>
    let (n, inexact) := roundAt rm s m e false 0
    let v : Int := if s then -(n : Int) else n
    if inFixedRange dst v then
      (BitVec.ofInt 64 v &&& fmtMask dst, if inexact then condI else condNone)
    else invalidResult dst
  | _ => invalidResult dst

/-- CVT.S and CVT.D from a fixed-point format: `Round` of the integer
(47_fpu_convert_move_branch.md R540, R541). -/
def fpFromFixed (c : Config) (fcsr : BitVec 32) (src dst : Fmt) (a : Word) : Word × Conds :=
  let n := fixedValue src a
  roundValue c fcsr dst (decide (n < 0)) n.natAbs 0 false

/-- CVT.S.D and CVT.D.S (47_fpu_convert_move_branch.md R540, R541). -/
def fpToFloat (c : Config) (fcsr : BitVec 32) (src dst : Fmt) (a : Word) : Word × Conds :=
  let x := decodeNum src a
  nanRule c (.convert dst) dst [x] a 0 0 (roundNum c fcsr dst x)

end Sys2Proof.Machine
end

