-- ==== Sys2Proof/Machine/FpArith.lean ====
section
/-! DEFINITION. The arithmetic instructions of the FPU (46_fpu_arith.md R500 to R513). -/

namespace Sys2Proof.Machine

open Sys2Proof

/-- The end of an arithmetic, conversion or compare instruction: Unimplemented Operation when the
predicate `Unimpl` claims the case, else what the operation raises and delivers
(44_fpu_model.md R442, R444). `s` is the state before, `s'` after the operands were read. -/
def State.fpFinish (s s' : State) (op : FpOp) (fmt : Fmt) (a b d : Word) (c : Conds)
    (write : State → State) : Result :=
  s.fpResult s' (if s.claimed op fmt a b d then condE else c) write

/-- An operation of one operand, read in format `src`, its result in format `dst`
(46_fpu_arith.md, common steps 1 to 5). -/
def State.fpUnary (s : State) (op : FpOp) (src dst : Fmt) (f : Word → Word × Conds)
    (fd fs : RegNum) : Result :=
  s.withCu1
    (let (a, s') := s.valueFpr .fs fs src
     let r := f a
     s.fpFinish s' op src a 0 0 r.2 fun t => t.storeFpr fd dst r.1)

/-- An operation of two operands. -/
def State.fpBinary (s : State) (op : FpOp) (fmt : Fmt) (f : Word → Word → Word × Conds)
    (fd fs ft : RegNum) : Result :=
  s.withCu1
    (let (a, s₁) := s.valueFpr .fs fs fmt
     let (b, s₂) := s₁.valueFpr .ft ft fmt
     let r := f a b
     s.fpFinish s₂ op fmt a b 0 r.2 fun t => t.storeFpr fd fmt r.1)

/-- A multiply-accumulate operation; the operands are read in the order fr, fs, ft
(46_fpu_arith.md R513). -/
def State.fpTernary (s : State) (op : FpOp) (fmt : Fmt) (f : Word → Word → Word → Word × Conds)
    (fd fr fs ft : RegNum) : Result :=
  s.withCu1
    (let (d, s₁) := s.valueFpr .fr fr fmt
     let (a, s₂) := s₁.valueFpr .fs fs fmt
     let (b, s₃) := s₂.valueFpr .ft ft fmt
     let r := f d a b
     s.fpFinish s₃ op fmt d a b r.2 fun t => t.storeFpr fd fmt r.1)

/-- ADD.S (46_fpu_arith.md R500). -/
def execAddS (fd fs ft : RegNum) (s : State) : Result :=
  s.fpBinary .add .s (fpAdd s.cfg s.fcsr .s) fd fs ft

/-- ADD.D (46_fpu_arith.md R500). -/
def execAddD (fd fs ft : RegNum) (s : State) : Result :=
  s.fpBinary .add .d (fpAdd s.cfg s.fcsr .d) fd fs ft

/-- SUB.S (46_fpu_arith.md R501). -/
def execSubS (fd fs ft : RegNum) (s : State) : Result :=
  s.fpBinary .sub .s (fpSub s.cfg s.fcsr .s) fd fs ft

/-- SUB.D (46_fpu_arith.md R501). -/
def execSubD (fd fs ft : RegNum) (s : State) : Result :=
  s.fpBinary .sub .d (fpSub s.cfg s.fcsr .d) fd fs ft

/-- MUL.S (46_fpu_arith.md R502). -/
def execMulS (fd fs ft : RegNum) (s : State) : Result :=
  s.fpBinary .mul .s (fpMul s.cfg s.fcsr .s) fd fs ft

/-- MUL.D (46_fpu_arith.md R502). -/
def execMulD (fd fs ft : RegNum) (s : State) : Result :=
  s.fpBinary .mul .d (fpMul s.cfg s.fcsr .d) fd fs ft

/-- DIV.S (46_fpu_arith.md R503). -/
def execDivS (fd fs ft : RegNum) (s : State) : Result :=
  s.fpBinary .div .s (fpDiv s.cfg s.fcsr .s) fd fs ft

/-- DIV.D (46_fpu_arith.md R503). -/
def execDivD (fd fs ft : RegNum) (s : State) : Result :=
  s.fpBinary .div .d (fpDiv s.cfg s.fcsr .d) fd fs ft

/-- SQRT.S (46_fpu_arith.md R504). -/
def execSqrtS (fd fs : RegNum) (s : State) : Result :=
  s.fpUnary .sqrt .s .s (fpSqrt s.cfg s.fcsr .s) fd fs

/-- SQRT.D (46_fpu_arith.md R504). -/
def execSqrtD (fd fs : RegNum) (s : State) : Result :=
  s.fpUnary .sqrt .d .d (fpSqrt s.cfg s.fcsr .d) fd fs

/-- ABS.S (46_fpu_arith.md R505). -/
def execAbsS (fd fs : RegNum) (s : State) : Result :=
  s.fpUnary .abs .s .s (fpAbs s.cfg .s) fd fs

/-- ABS.D (46_fpu_arith.md R505). -/
def execAbsD (fd fs : RegNum) (s : State) : Result :=
  s.fpUnary .abs .d .d (fpAbs s.cfg .d) fd fs

/-- NEG.S (46_fpu_arith.md R506). -/
def execNegS (fd fs : RegNum) (s : State) : Result :=
  s.fpUnary .neg .s .s (fpNeg s.cfg .s) fd fs

/-- NEG.D (46_fpu_arith.md R506). -/
def execNegD (fd fs : RegNum) (s : State) : Result :=
  s.fpUnary .neg .d .d (fpNeg s.cfg .d) fd fs

/-- RECIP.S (46_fpu_arith.md R507). -/
def execRecipS (fd fs : RegNum) (s : State) : Result :=
  s.fpUnary .recip .s .s (fpRecip s.cfg s.fcsr .s) fd fs

/-- RECIP.D (46_fpu_arith.md R507). -/
def execRecipD (fd fs : RegNum) (s : State) : Result :=
  s.fpUnary .recip .d .d (fpRecip s.cfg s.fcsr .d) fd fs

/-- RSQRT.S (46_fpu_arith.md R508). -/
def execRsqrtS (fd fs : RegNum) (s : State) : Result :=
  s.fpUnary .rsqrt .s .s (fpRsqrt s.cfg s.fcsr .s) fd fs

/-- RSQRT.D (46_fpu_arith.md R508). -/
def execRsqrtD (fd fs : RegNum) (s : State) : Result :=
  s.fpUnary .rsqrt .d .d (fpRsqrt s.cfg s.fcsr .d) fd fs

/-- MADD.S (46_fpu_arith.md R509). -/
def execMaddS (fd fr fs ft : RegNum) (s : State) : Result :=
  s.fpTernary .madd .s (fpMadd s.cfg s.fcsr .madd false false .s) fd fr fs ft

/-- MADD.D (46_fpu_arith.md R509). -/
def execMaddD (fd fr fs ft : RegNum) (s : State) : Result :=
  s.fpTernary .madd .d (fpMadd s.cfg s.fcsr .madd false false .d) fd fr fs ft

/-- MSUB.S (46_fpu_arith.md R510). -/
def execMsubS (fd fr fs ft : RegNum) (s : State) : Result :=
  s.fpTernary .msub .s (fpMadd s.cfg s.fcsr .msub true false .s) fd fr fs ft

/-- MSUB.D (46_fpu_arith.md R510). -/
def execMsubD (fd fr fs ft : RegNum) (s : State) : Result :=
  s.fpTernary .msub .d (fpMadd s.cfg s.fcsr .msub true false .d) fd fr fs ft

/-- NMADD.S (46_fpu_arith.md R511). -/
def execNmaddS (fd fr fs ft : RegNum) (s : State) : Result :=
  s.fpTernary .nmadd .s (fpMadd s.cfg s.fcsr .nmadd false true .s) fd fr fs ft

/-- NMADD.D (46_fpu_arith.md R511). -/
def execNmaddD (fd fr fs ft : RegNum) (s : State) : Result :=
  s.fpTernary .nmadd .d (fpMadd s.cfg s.fcsr .nmadd false true .d) fd fr fs ft

/-- NMSUB.S (46_fpu_arith.md R512). -/
def execNmsubS (fd fr fs ft : RegNum) (s : State) : Result :=
  s.fpTernary .nmsub .s (fpMadd s.cfg s.fcsr .nmsub true true .s) fd fr fs ft

/-- NMSUB.D (46_fpu_arith.md R512). -/
def execNmsubD (fd fr fs ft : RegNum) (s : State) : Result :=
  s.fpTernary .nmsub .d (fpMadd s.cfg s.fcsr .nmsub true true .d) fd fr fs ft

end Sys2Proof.Machine
end

