-- ==== Sys2Proof/Machine/FpBranch.lean ====
section
/-! DEFINITION. The conditional branches on an FP condition code (47_fpu_convert_move_branch.md R580 to
R583). -/

namespace Sys2Proof.Machine

open Sys2Proof

/-- BC1F (47_fpu_convert_move_branch.md R580). -/
def execBc1f (cc : BitVec 3) (offset : BitVec 16) (s : State) : Result :=
  s.withCu1 (s.branch (.next (s.jumpTo (!s.fcc cc) (s.branchTarget offset))))

/-- BC1T (47_fpu_convert_move_branch.md R581). -/
def execBc1t (cc : BitVec 3) (offset : BitVec 16) (s : State) : Result :=
  s.withCu1 (s.branch (.next (s.jumpTo (s.fcc cc) (s.branchTarget offset))))

/-- BC1FL (47_fpu_convert_move_branch.md R582). -/
def execBc1fl (cc : BitVec 3) (offset : BitVec 16) (s : State) : Result :=
  s.withCu1 (s.branch (.next (s.jumpLikely (!s.fcc cc) (s.branchTarget offset))))

/-- BC1TL (47_fpu_convert_move_branch.md R583). -/
def execBc1tl (cc : BitVec 3) (offset : BitVec 16) (s : State) : Result :=
  s.withCu1 (s.branch (.next (s.jumpLikely (s.fcc cc) (s.branchTarget offset))))

end Sys2Proof.Machine
end

