-- ==== Sys2Proof/Machine/FpCompare.lean ====
section
/-! DEFINITION. The compare instructions of the FPU (46_fpu_arith.md R514). -/

namespace Sys2Proof.Machine

open Sys2Proof

/-- C.cond.fmt: the condition goes to `FCC[cc]`; nothing goes to a register
(46_fpu_arith.md R514). -/
def State.fpCompareOp (s : State) (cond : BitVec 4) (fmt : Fmt) (cc : BitVec 3) (fs ft : RegNum) :
    Result :=
  s.withCu1
    (let (a, s₁) := s.valueFpr .fs fs fmt
     let (b, s₂) := s₁.valueFpr .ft ft fmt
     let r := fpCompare cond fmt a b
     s.fpFinish s₂ (.compare cond) fmt a b 0 r.2 fun t => t.setFcc cc r.1)

/-- C.F.S (46_fpu_arith.md R514). -/
def execCFS (cc : BitVec 3) (fs ft : RegNum) (s : State) : Result :=
  s.fpCompareOp 0x0#4 .s cc fs ft

/-- C.UN.S (46_fpu_arith.md R514). -/
def execCUnS (cc : BitVec 3) (fs ft : RegNum) (s : State) : Result :=
  s.fpCompareOp 0x1#4 .s cc fs ft

/-- C.EQ.S (46_fpu_arith.md R514). -/
def execCEqS (cc : BitVec 3) (fs ft : RegNum) (s : State) : Result :=
  s.fpCompareOp 0x2#4 .s cc fs ft

/-- C.UEQ.S (46_fpu_arith.md R514). -/
def execCUeqS (cc : BitVec 3) (fs ft : RegNum) (s : State) : Result :=
  s.fpCompareOp 0x3#4 .s cc fs ft

/-- C.OLT.S (46_fpu_arith.md R514). -/
def execCOltS (cc : BitVec 3) (fs ft : RegNum) (s : State) : Result :=
  s.fpCompareOp 0x4#4 .s cc fs ft

/-- C.ULT.S (46_fpu_arith.md R514). -/
def execCUltS (cc : BitVec 3) (fs ft : RegNum) (s : State) : Result :=
  s.fpCompareOp 0x5#4 .s cc fs ft

/-- C.OLE.S (46_fpu_arith.md R514). -/
def execCOleS (cc : BitVec 3) (fs ft : RegNum) (s : State) : Result :=
  s.fpCompareOp 0x6#4 .s cc fs ft

/-- C.ULE.S (46_fpu_arith.md R514). -/
def execCUleS (cc : BitVec 3) (fs ft : RegNum) (s : State) : Result :=
  s.fpCompareOp 0x7#4 .s cc fs ft

/-- C.SF.S (46_fpu_arith.md R514). -/
def execCSfS (cc : BitVec 3) (fs ft : RegNum) (s : State) : Result :=
  s.fpCompareOp 0x8#4 .s cc fs ft

/-- C.NGLE.S (46_fpu_arith.md R514). -/
def execCNgleS (cc : BitVec 3) (fs ft : RegNum) (s : State) : Result :=
  s.fpCompareOp 0x9#4 .s cc fs ft

/-- C.SEQ.S (46_fpu_arith.md R514). -/
def execCSeqS (cc : BitVec 3) (fs ft : RegNum) (s : State) : Result :=
  s.fpCompareOp 0xa#4 .s cc fs ft

/-- C.NGL.S (46_fpu_arith.md R514). -/
def execCNglS (cc : BitVec 3) (fs ft : RegNum) (s : State) : Result :=
  s.fpCompareOp 0xb#4 .s cc fs ft

/-- C.LT.S (46_fpu_arith.md R514). -/
def execCLtS (cc : BitVec 3) (fs ft : RegNum) (s : State) : Result :=
  s.fpCompareOp 0xc#4 .s cc fs ft

/-- C.NGE.S (46_fpu_arith.md R514). -/
def execCNgeS (cc : BitVec 3) (fs ft : RegNum) (s : State) : Result :=
  s.fpCompareOp 0xd#4 .s cc fs ft

/-- C.LE.S (46_fpu_arith.md R514). -/
def execCLeS (cc : BitVec 3) (fs ft : RegNum) (s : State) : Result :=
  s.fpCompareOp 0xe#4 .s cc fs ft

/-- C.NGT.S (46_fpu_arith.md R514). -/
def execCNgtS (cc : BitVec 3) (fs ft : RegNum) (s : State) : Result :=
  s.fpCompareOp 0xf#4 .s cc fs ft

/-- C.F.D (46_fpu_arith.md R514). -/
def execCFD (cc : BitVec 3) (fs ft : RegNum) (s : State) : Result :=
  s.fpCompareOp 0x0#4 .d cc fs ft

/-- C.UN.D (46_fpu_arith.md R514). -/
def execCUnD (cc : BitVec 3) (fs ft : RegNum) (s : State) : Result :=
  s.fpCompareOp 0x1#4 .d cc fs ft

/-- C.EQ.D (46_fpu_arith.md R514). -/
def execCEqD (cc : BitVec 3) (fs ft : RegNum) (s : State) : Result :=
  s.fpCompareOp 0x2#4 .d cc fs ft

/-- C.UEQ.D (46_fpu_arith.md R514). -/
def execCUeqD (cc : BitVec 3) (fs ft : RegNum) (s : State) : Result :=
  s.fpCompareOp 0x3#4 .d cc fs ft

/-- C.OLT.D (46_fpu_arith.md R514). -/
def execCOltD (cc : BitVec 3) (fs ft : RegNum) (s : State) : Result :=
  s.fpCompareOp 0x4#4 .d cc fs ft

/-- C.ULT.D (46_fpu_arith.md R514). -/
def execCUltD (cc : BitVec 3) (fs ft : RegNum) (s : State) : Result :=
  s.fpCompareOp 0x5#4 .d cc fs ft

/-- C.OLE.D (46_fpu_arith.md R514). -/
def execCOleD (cc : BitVec 3) (fs ft : RegNum) (s : State) : Result :=
  s.fpCompareOp 0x6#4 .d cc fs ft

/-- C.ULE.D (46_fpu_arith.md R514). -/
def execCUleD (cc : BitVec 3) (fs ft : RegNum) (s : State) : Result :=
  s.fpCompareOp 0x7#4 .d cc fs ft

/-- C.SF.D (46_fpu_arith.md R514). -/
def execCSfD (cc : BitVec 3) (fs ft : RegNum) (s : State) : Result :=
  s.fpCompareOp 0x8#4 .d cc fs ft

/-- C.NGLE.D (46_fpu_arith.md R514). -/
def execCNgleD (cc : BitVec 3) (fs ft : RegNum) (s : State) : Result :=
  s.fpCompareOp 0x9#4 .d cc fs ft

/-- C.SEQ.D (46_fpu_arith.md R514). -/
def execCSeqD (cc : BitVec 3) (fs ft : RegNum) (s : State) : Result :=
  s.fpCompareOp 0xa#4 .d cc fs ft

/-- C.NGL.D (46_fpu_arith.md R514). -/
def execCNglD (cc : BitVec 3) (fs ft : RegNum) (s : State) : Result :=
  s.fpCompareOp 0xb#4 .d cc fs ft

/-- C.LT.D (46_fpu_arith.md R514). -/
def execCLtD (cc : BitVec 3) (fs ft : RegNum) (s : State) : Result :=
  s.fpCompareOp 0xc#4 .d cc fs ft

/-- C.NGE.D (46_fpu_arith.md R514). -/
def execCNgeD (cc : BitVec 3) (fs ft : RegNum) (s : State) : Result :=
  s.fpCompareOp 0xd#4 .d cc fs ft

/-- C.LE.D (46_fpu_arith.md R514). -/
def execCLeD (cc : BitVec 3) (fs ft : RegNum) (s : State) : Result :=
  s.fpCompareOp 0xe#4 .d cc fs ft

/-- C.NGT.D (46_fpu_arith.md R514). -/
def execCNgtD (cc : BitVec 3) (fs ft : RegNum) (s : State) : Result :=
  s.fpCompareOp 0xf#4 .d cc fs ft

end Sys2Proof.Machine
end

