-- ==== Sys2Proof/Machine/FpConvert.lean ====
section
/-! DEFINITION. The conversion instructions of the FPU (47_fpu_convert_move_branch.md R540 to R552). -/

namespace Sys2Proof.Machine

open Sys2Proof

/-- CVT.S.D (47_fpu_convert_move_branch.md R540). -/
def execCvtSD (fd fs : RegNum) (s : State) : Result :=
  s.fpUnary (.convert .s) .d .s (fpToFloat s.cfg s.fcsr .d .s) fd fs

/-- CVT.S.W (47_fpu_convert_move_branch.md R540). -/
def execCvtSW (fd fs : RegNum) (s : State) : Result :=
  s.fpUnary (.convert .s) .w .s (fpFromFixed s.cfg s.fcsr .w .s) fd fs

/-- CVT.S.L (47_fpu_convert_move_branch.md R540). -/
def execCvtSL (fd fs : RegNum) (s : State) : Result :=
  s.fpUnary (.convert .s) .l .s (fpFromFixed s.cfg s.fcsr .l .s) fd fs

/-- CVT.D.S (47_fpu_convert_move_branch.md R541). -/
def execCvtDS (fd fs : RegNum) (s : State) : Result :=
  s.fpUnary (.convert .d) .s .d (fpToFloat s.cfg s.fcsr .s .d) fd fs

/-- CVT.D.W (47_fpu_convert_move_branch.md R541). -/
def execCvtDW (fd fs : RegNum) (s : State) : Result :=
  s.fpUnary (.convert .d) .w .d (fpFromFixed s.cfg s.fcsr .w .d) fd fs

/-- CVT.D.L (47_fpu_convert_move_branch.md R541). -/
def execCvtDL (fd fs : RegNum) (s : State) : Result :=
  s.fpUnary (.convert .d) .l .d (fpFromFixed s.cfg s.fcsr .l .d) fd fs

/-- CVT.W.S: in the rounding mode of FCSR (47_fpu_convert_move_branch.md R542). -/
def execCvtWS (fd fs : RegNum) (s : State) : Result :=
  s.fpUnary (.convert .w) .s .w (fpToFixed (fcsrRm s.fcsr) .s .w) fd fs

/-- CVT.W.D: in the rounding mode of FCSR (47_fpu_convert_move_branch.md R542). -/
def execCvtWD (fd fs : RegNum) (s : State) : Result :=
  s.fpUnary (.convert .w) .d .w (fpToFixed (fcsrRm s.fcsr) .d .w) fd fs

/-- CVT.L.S: in the rounding mode of FCSR (47_fpu_convert_move_branch.md R543). -/
def execCvtLS (fd fs : RegNum) (s : State) : Result :=
  s.fpUnary (.convert .l) .s .l (fpToFixed (fcsrRm s.fcsr) .s .l) fd fs

/-- CVT.L.D: in the rounding mode of FCSR (47_fpu_convert_move_branch.md R543). -/
def execCvtLD (fd fs : RegNum) (s : State) : Result :=
  s.fpUnary (.convert .l) .d .l (fpToFixed (fcsrRm s.fcsr) .d .l) fd fs

/-- ROUND.W.S: to nearest, ties to even (47_fpu_convert_move_branch.md R544). -/
def execRoundWS (fd fs : RegNum) (s : State) : Result :=
  s.fpUnary (.round .w) .s .w (fpToFixed 0#2 .s .w) fd fs

/-- ROUND.W.D: to nearest, ties to even (47_fpu_convert_move_branch.md R544). -/
def execRoundWD (fd fs : RegNum) (s : State) : Result :=
  s.fpUnary (.round .w) .d .w (fpToFixed 0#2 .d .w) fd fs

/-- ROUND.L.S: to nearest, ties to even (47_fpu_convert_move_branch.md R548). -/
def execRoundLS (fd fs : RegNum) (s : State) : Result :=
  s.fpUnary (.round .l) .s .l (fpToFixed 0#2 .s .l) fd fs

/-- ROUND.L.D: to nearest, ties to even (47_fpu_convert_move_branch.md R548). -/
def execRoundLD (fd fs : RegNum) (s : State) : Result :=
  s.fpUnary (.round .l) .d .l (fpToFixed 0#2 .d .l) fd fs

/-- TRUNC.W.S: toward zero (47_fpu_convert_move_branch.md R545). -/
def execTruncWS (fd fs : RegNum) (s : State) : Result :=
  s.fpUnary (.trunc .w) .s .w (fpToFixed 1#2 .s .w) fd fs

/-- TRUNC.W.D: toward zero (47_fpu_convert_move_branch.md R545). -/
def execTruncWD (fd fs : RegNum) (s : State) : Result :=
  s.fpUnary (.trunc .w) .d .w (fpToFixed 1#2 .d .w) fd fs

/-- TRUNC.L.S: toward zero (47_fpu_convert_move_branch.md R549). -/
def execTruncLS (fd fs : RegNum) (s : State) : Result :=
  s.fpUnary (.trunc .l) .s .l (fpToFixed 1#2 .s .l) fd fs

/-- TRUNC.L.D: toward zero (47_fpu_convert_move_branch.md R549). -/
def execTruncLD (fd fs : RegNum) (s : State) : Result :=
  s.fpUnary (.trunc .l) .d .l (fpToFixed 1#2 .d .l) fd fs

/-- CEIL.W.S: toward plus infinity (47_fpu_convert_move_branch.md R546). -/
def execCeilWS (fd fs : RegNum) (s : State) : Result :=
  s.fpUnary (.ceil .w) .s .w (fpToFixed 2#2 .s .w) fd fs

/-- CEIL.W.D: toward plus infinity (47_fpu_convert_move_branch.md R546). -/
def execCeilWD (fd fs : RegNum) (s : State) : Result :=
  s.fpUnary (.ceil .w) .d .w (fpToFixed 2#2 .d .w) fd fs

/-- CEIL.L.S: toward plus infinity (47_fpu_convert_move_branch.md R550). -/
def execCeilLS (fd fs : RegNum) (s : State) : Result :=
  s.fpUnary (.ceil .l) .s .l (fpToFixed 2#2 .s .l) fd fs

/-- CEIL.L.D: toward plus infinity (47_fpu_convert_move_branch.md R550). -/
def execCeilLD (fd fs : RegNum) (s : State) : Result :=
  s.fpUnary (.ceil .l) .d .l (fpToFixed 2#2 .d .l) fd fs

/-- FLOOR.W.S: toward minus infinity (47_fpu_convert_move_branch.md R547). -/
def execFloorWS (fd fs : RegNum) (s : State) : Result :=
  s.fpUnary (.floor .w) .s .w (fpToFixed 3#2 .s .w) fd fs

/-- FLOOR.W.D: toward minus infinity (47_fpu_convert_move_branch.md R547). -/
def execFloorWD (fd fs : RegNum) (s : State) : Result :=
  s.fpUnary (.floor .w) .d .w (fpToFixed 3#2 .d .w) fd fs

/-- FLOOR.L.S: toward minus infinity (47_fpu_convert_move_branch.md R551). -/
def execFloorLS (fd fs : RegNum) (s : State) : Result :=
  s.fpUnary (.floor .l) .s .l (fpToFixed 3#2 .s .l) fd fs

/-- FLOOR.L.D: toward minus infinity (47_fpu_convert_move_branch.md R551). -/
def execFloorLD (fd fs : RegNum) (s : State) : Result :=
  s.fpUnary (.floor .l) .d .l (fpToFixed 3#2 .d .l) fd fs

end Sys2Proof.Machine
end

