-- ==== Sys2Proof/Machine/FpMove.lean ====
section
/-! DEFINITION. The formatted operand moves of the FPU (47_fpu_convert_move_branch.md R560 to R564). -/

namespace Sys2Proof.Machine

open Sys2Proof

/-- `StoreFPR(fd, fmt, ValueFPR(src, fmt))`. A formatted move raises no IEEE condition and leaves cause
and flags alone (44_fpu_model.md R462). DEDUCED (log 27; 47_fpu_convert_move_branch.md, the exceptions of
section 3): where the predicate `Unimpl`, asked about the value the move would write, claims it, it raises
Unimplemented Operation with only cause E set, as R442 says of the other operations.
DESIGN CHOICE (log 40): an undefined source, by its tag or by its bits, is drawn once, and `fd` then holds
the value drawn, so that later reads of `fd` agree. -/
def State.moveFpr (s : State) (op : FpOp) (fmt : Fmt) (fd src : RegNum) (site : DrawSite) : Result :=
  let (v, s') := s.valueFpr site src fmt
  .next
    (if s.claimed op fmt v 0 0 then
       { s with fcsr := setCause s.fcsr condE }.raise .floatingPoint
     else (s'.storeFpr fd fmt v).complete)

/-- A conditional formatted move: when the condition is false the destination is read and rewritten in
the format (44_fpu_model.md R462). -/
def State.moveFprIf (s : State) (op : FpOp) (cond : Bool) (fmt : Fmt) (fd fs : RegNum) : Result :=
  s.withCu1 (if cond then s.moveFpr op fmt fd fs .fs else s.moveFpr op fmt fd fd .fd)

/-- MOV.S (47_fpu_convert_move_branch.md R560). -/
def execMovS (fd fs : RegNum) (s : State) : Result := s.withCu1 (s.moveFpr .mov .s fd fs .fs)

/-- MOVF.S (47_fpu_convert_move_branch.md R561). -/
def execMovfS (fd fs : RegNum) (cc : BitVec 3) (s : State) : Result :=
  s.moveFprIf .movf (!s.fcc cc) .s fd fs

/-- MOVT.S (47_fpu_convert_move_branch.md R562). -/
def execMovtS (fd fs : RegNum) (cc : BitVec 3) (s : State) : Result :=
  s.moveFprIf .movt (s.fcc cc) .s fd fs

/-- MOVN.S (47_fpu_convert_move_branch.md R563). -/
def execMovnS (fd fs rt : RegNum) (s : State) : Result :=
  s.moveFprIf .movn (s.x .rt rt != 0) .s fd fs

/-- MOVZ.S (47_fpu_convert_move_branch.md R564). -/
def execMovzS (fd fs rt : RegNum) (s : State) : Result :=
  s.moveFprIf .movz (s.x .rt rt == 0) .s fd fs

/-- MOV.D (47_fpu_convert_move_branch.md R560). -/
def execMovD (fd fs : RegNum) (s : State) : Result := s.withCu1 (s.moveFpr .mov .d fd fs .fs)

/-- MOVF.D (47_fpu_convert_move_branch.md R561). -/
def execMovfD (fd fs : RegNum) (cc : BitVec 3) (s : State) : Result :=
  s.moveFprIf .movf (!s.fcc cc) .d fd fs

/-- MOVT.D (47_fpu_convert_move_branch.md R562). -/
def execMovtD (fd fs : RegNum) (cc : BitVec 3) (s : State) : Result :=
  s.moveFprIf .movt (s.fcc cc) .d fd fs

/-- MOVN.D (47_fpu_convert_move_branch.md R563). -/
def execMovnD (fd fs rt : RegNum) (s : State) : Result :=
  s.moveFprIf .movn (s.x .rt rt != 0) .d fd fs

/-- MOVZ.D (47_fpu_convert_move_branch.md R564). -/
def execMovzD (fd fs rt : RegNum) (s : State) : Result :=
  s.moveFprIf .movz (s.x .rt rt == 0) .d fd fs

end Sys2Proof.Machine
end

