-- ==== Sys2Proof/Machine/FpTransfer.lean ====
section
/-! DEFINITION. The data transfer instructions of the FPU (45_fpu_transfer.md R470 to R485). -/

namespace Sys2Proof.Machine

open Sys2Proof

/-- The region bits of an indexed address come from the base (45_fpu_transfer.md R485). -/
def sameRegion (va base : Word) : Bool := va.extractLsb' 62 2 == base.extractLsb' 62 2

/-- `vAddr <- x[base] + x[index]` (45_fpu_transfer.md R485). -/
def State.indexAddr (s : State) (index base : RegNum) : Word := s.x .rs base + s.x .rt index

/-- The cell a word or doubleword from memory leaves: `UNDEF` after a region violation
(45_fpu_transfer.md R485, log 37). -/
def State.indexedCell (s : State) (va : Word) (base : RegNum) (v : Word) : Reg :=
  if sameRegion va (s.x .rs base) then Reg.of v else Reg.unknown

/-- The low word of `f[n]`, read through operand field `site`. -/
def State.fgrWord (s : State) (site : DrawSite) (n : RegNum) : Word :=
  (s.fgrLow n).read (s.draw site)

/-- The doubleword in FPR `n`, read through operand field `site`. -/
def State.fgrDouble (s : State) (site : DrawSite) (n : RegNum) : Word :=
  (s.fprDouble n).read (s.draw site)

/-- A store of the doubleword in FPR `n`, read through operand field `site`; an odd number of the 32-bit
model stores `UNDEF_64` (45_fpu_transfer.md R473, R477, 44_fpu_model.md R433). -/
def State.storeFprDouble (s : State) (site : DrawSite) (n : RegNum) (va : Word) : Result :=
  if s.validFpr n then s.store va 8 (s.fgrDouble site n) else s.storeUndef va 8

/-- An indexed store of `n` bytes: after a region violation the location receives `UNDEF`
(45_fpu_transfer.md R485). -/
def State.indexedStore (s : State) (va : Word) (base : RegNum) (n : Nat) (stores : Result) : Result :=
  if sameRegion va (s.x .rs base) then stores else s.storeUndef va n

/-! ### Register + offset -/

/-- LWC1 (45_fpu_transfer.md R470). -/
def execLwc1 (ft : RegNum) (offset : BitVec 16) (base : RegNum) (s : State) : Result :=
  s.withCu1 <| offsetCheck offset 2 <|
    s.load (s.effAddr base offset) 4 fun t v => t.loadFgrWord ft (Reg.of v)

/-- LDC1 (45_fpu_transfer.md R471). -/
def execLdc1 (ft : RegNum) (offset : BitVec 16) (base : RegNum) (s : State) : Result :=
  s.withCu1 <| offsetCheck offset 3 <|
    s.load (s.effAddr base offset) 8 fun t v => t.loadFprDouble ft (Reg.of v)

/-- SWC1 (45_fpu_transfer.md R472). -/
def execSwc1 (ft : RegNum) (offset : BitVec 16) (base : RegNum) (s : State) : Result :=
  s.withCu1 <| offsetCheck offset 2 <| s.store (s.effAddr base offset) 4 (s.fgrWord .ft ft)

/-- SDC1 (45_fpu_transfer.md R473). -/
def execSdc1 (ft : RegNum) (offset : BitVec 16) (base : RegNum) (s : State) : Result :=
  s.withCu1 <| offsetCheck offset 3 <| s.storeFprDouble .ft ft (s.effAddr base offset)

/-! ### Register + register -/

/-- LWXC1 (45_fpu_transfer.md R474). -/
def execLwxc1 (fd index base : RegNum) (s : State) : Result :=
  let va := s.indexAddr index base
  s.withCu1 <| s.load va 4 fun t v => t.loadFgrWord fd (s.indexedCell va base v)

/-- LDXC1 (45_fpu_transfer.md R475). -/
def execLdxc1 (fd index base : RegNum) (s : State) : Result :=
  let va := s.indexAddr index base
  s.withCu1 <| s.load va 8 fun t v => t.loadFprDouble fd (s.indexedCell va base v)

/-- SWXC1 (45_fpu_transfer.md R476). -/
def execSwxc1 (fs index base : RegNum) (s : State) : Result :=
  let va := s.indexAddr index base
  s.withCu1 <| s.indexedStore va base 4 (s.store va 4 (s.fgrWord .fs fs))

/-- SDXC1 (45_fpu_transfer.md R477). -/
def execSdxc1 (fs index base : RegNum) (s : State) : Result :=
  let va := s.indexAddr index base
  s.withCu1 <| s.indexedStore va base 8 (s.storeFprDouble .fs fs va)

/-- PREFX: as PREF, in the COP1X class (45_fpu_transfer.md R478). -/
def execPrefx (_hint : BitVec 5) (_index _base : RegNum) (s : State) : Result :=
  s.withCu1 (.next s.disturbLink.complete)

/-! ### Moves between the register files -/

/-- MFC1 (45_fpu_transfer.md R479). -/
def execMfc1 (rt fs : RegNum) (s : State) : Result :=
  s.withCu1 (.next (s.setX rt (wordResult (lowWord (s.fgrWord .fs fs)))).complete)

/-- MTC1 (45_fpu_transfer.md R480). -/
def execMtc1 (rt fs : RegNum) (s : State) : Result :=
  s.withCu1 (.next (s.loadFgrWord fs (Reg.of (s.x .rt rt))).complete)

/-- DMFC1; an odd number of the 32-bit model gives `UNDEF_64` (45_fpu_transfer.md R481). -/
def execDmfc1 (rt fs : RegNum) (s : State) : Result :=
  s.withCu1
    (.next (if s.validFpr fs then s.setX rt (s.fgrDouble .fs fs) else s.undefX rt).complete)

/-- DMTC1 (45_fpu_transfer.md R482). -/
def execDmtc1 (rt fs : RegNum) (s : State) : Result :=
  s.withCu1 (.next (s.loadFprDouble fs (Reg.of (s.x .rt rt))).complete)

/-! ### Control registers -/

/-- `FIR`: implementation and revision, the upper half 0 (10_state.md R45, log 7). -/
def State.fir (s : State) : BitVec 32 := 0#16 ++ s.cfg.firImp ++ s.cfg.firRev

/-- CFC1 (45_fpu_transfer.md R483). -/
def execCfc1 (rt fs : RegNum) (s : State) : Result :=
  s.withCu1
    (.next
      (if fs = 0 then s.setX rt (wordResult s.fir)
       else if fs = 31 then s.setX rt (wordResult s.fcsr)
       else s.undefX rt).complete)

/-- CTC1: FCSR is written before the exception occurs; a write to any other control register has no
effect (45_fpu_transfer.md R484). -/
def execCtc1 (rt fs : RegNum) (s : State) : Result :=
  s.withCu1
    (if fs = 31 then
       let f := lowWord (s.x .rt rt) &&& fcsrWritable
       if fpTraps f (fcsrCause f) then .next ({ s with fcsr := f }.raise .floatingPoint)
       else .next { s with fcsr := f }.complete
     else .next s.complete)

end Sys2Proof.Machine
end

