-- ==== Sys2Proof/Machine/Load.lean ====
section
/-! DEFINITION. The aligned loads (40_cpu_load_store.md R202 to R208). -/

namespace Sys2Proof.Machine

open Sys2Proof

/-- LB (40_cpu_load_store.md R202). -/
def execLb (rt : RegNum) (offset : BitVec 16) (base : RegNum) (s : State) : Result :=
  s.load (s.effAddr base offset) 1 fun t v => t.setX rt ((v.setWidth 8).signExtend 64)

/-- LBU (40_cpu_load_store.md R203). -/
def execLbu (rt : RegNum) (offset : BitVec 16) (base : RegNum) (s : State) : Result :=
  s.load (s.effAddr base offset) 1 fun t v => t.setX rt ((v.setWidth 8).setWidth 64)

/-- LH (40_cpu_load_store.md R204). -/
def execLh (rt : RegNum) (offset : BitVec 16) (base : RegNum) (s : State) : Result :=
  s.load (s.effAddr base offset) 2 fun t v => t.setX rt ((v.setWidth 16).signExtend 64)

/-- LHU (40_cpu_load_store.md R205). -/
def execLhu (rt : RegNum) (offset : BitVec 16) (base : RegNum) (s : State) : Result :=
  s.load (s.effAddr base offset) 2 fun t v => t.setX rt ((v.setWidth 16).setWidth 64)

/-- LW (40_cpu_load_store.md R206). -/
def execLw (rt : RegNum) (offset : BitVec 16) (base : RegNum) (s : State) : Result :=
  offsetCheck offset 2 <|
    s.load (s.effAddr base offset) 4 fun t v => t.setX rt (wordResult (lowWord v))

/-- LWU (40_cpu_load_store.md R207). -/
def execLwu (rt : RegNum) (offset : BitVec 16) (base : RegNum) (s : State) : Result :=
  offsetCheck offset 2 <|
    s.load (s.effAddr base offset) 4 fun t v => t.setX rt ((lowWord v).setWidth 64)

/-- LD (40_cpu_load_store.md R208). -/
def execLd (rt : RegNum) (offset : BitVec 16) (base : RegNum) (s : State) : Result :=
  offsetCheck offset 3 <|
    s.load (s.effAddr base offset) 8 fun t v => t.setX rt v

end Sys2Proof.Machine
end

