-- ==== Sys2Proof/Machine/Misc.lean ====
section
/-! DEFINITION. SYNC, the conditional moves of general registers, prefetch, and the classes of coprocessors
0 and 2 (43_cpu_misc.md R394 to R403). -/

namespace Sys2Proof.Machine

open Sys2Proof

/-- SYNC: with one processor and no other agent, no effect for any stype (43_cpu_misc.md R394). -/
def execSync (_stype : BitVec 5) (s : State) : Result := .next s.complete

/-- MOVN (43_cpu_misc.md R395). -/
def execMovn (rd rs rt : RegNum) (s : State) : Result :=
  .next (if s.x .rt rt != 0 then s.setX rd (s.x .rs rs) else s).complete

/-- MOVZ (43_cpu_misc.md R396). -/
def execMovz (rd rs rt : RegNum) (s : State) : Result :=
  .next (if s.x .rt rt == 0 then s.setX rd (s.x .rs rs) else s).complete

/-- MOVF (43_cpu_misc.md R397). -/
def execMovf (rd rs : RegNum) (cc : BitVec 3) (s : State) : Result :=
  s.withCu1 (.next (if !s.fcc cc then s.setX rd (s.x .rs rs) else s).complete)

/-- MOVT (43_cpu_misc.md R398). -/
def execMovt (rd rs : RegNum) (cc : BitVec 3) (s : State) : Result :=
  s.withCu1 (.next (if s.fcc cc then s.setX rd (s.x .rs rs) else s).complete)

/-- PREF: no translation, no exception; a draw in `LLbit` if it was 1 (43_cpu_misc.md R399). -/
def execPref (_hint : BitVec 5) (_offset : BitVec 16) (_base : RegNum) (s : State) : Result :=
  .next s.disturbLink.complete

/-- The COP0 class: privileged, so unusable (43_cpu_misc.md R403, log 28). -/
def execCop0 (_cofun : BitVec 26) (s : State) : Result :=
  if s.cfg.cu0 then .refused .coprocessor0Undescribed
  else .next (s.raise (.coprocessorUnusable 0))

/-- An instruction of coprocessor 2 (43_cpu_misc.md R401, R402). -/
def State.withCu2 (s : State) (k : Result) : Result :=
  if s.cfg.cu2 then k else .next (s.raise (.coprocessorUnusable 2))

/-- The COP2 class (43_cpu_misc.md R401). -/
def execCop2 (_cofun : BitVec 26) (s : State) : Result :=
  s.withCu2 (.refused .coprocessor2Undescribed)

/-- A load to coprocessor 2: the access, then a unit the spec does not describe
(40_cpu_load_store.md R227, log 28). -/
def State.loadCop2 (s : State) (va : Word) (n : Nat) : Result :=
  match s.memRead va n with
  | .error e => .next (s.raise e)
  | .ok _ => .refused .coprocessor2Undescribed

/-- A store from coprocessor 2: the tests of the access, then a unit the spec does not describe
(40_cpu_load_store.md R229, log 28). -/
def State.storeCop2 (s : State) (va : Word) (n : Nat) : Result :=
  if aligned va n then
    match s.locate va va n .store with
    | .error e => .next (s.raise e)
    | .ok _ => .refused .coprocessor2Undescribed
  else .next (s.raise (.addressError va .store))

/-- LWC2 (40_cpu_load_store.md R227). -/
def execLwc2 (_rt : RegNum) (offset : BitVec 16) (base : RegNum) (s : State) : Result :=
  s.withCu2 <| offsetCheck offset 2 <| s.loadCop2 (s.effAddr base offset) 4

/-- LDC2 (40_cpu_load_store.md R228). -/
def execLdc2 (_rt : RegNum) (offset : BitVec 16) (base : RegNum) (s : State) : Result :=
  s.withCu2 <| offsetCheck offset 3 <| s.loadCop2 (s.effAddr base offset) 8

/-- SWC2 (40_cpu_load_store.md R229). -/
def execSwc2 (_rt : RegNum) (offset : BitVec 16) (base : RegNum) (s : State) : Result :=
  s.withCu2 <| offsetCheck offset 2 <| s.storeCop2 (s.effAddr base offset) 4

/-- SDC2 (40_cpu_load_store.md R230). -/
def execSdc2 (_rt : RegNum) (offset : BitVec 16) (base : RegNum) (s : State) : Result :=
  s.withCu2 <| offsetCheck offset 3 <| s.storeCop2 (s.effAddr base offset) 8

end Sys2Proof.Machine
end

