-- ==== Sys2Proof/Machine/MulDiv.lean ====
section
/-! DEFINITION. Multiply, divide, and the moves to and from HI and LO (41_cpu_alu.md R300 to R313). -/

namespace Sys2Proof.Machine

open Sys2Proof

/-- A writer of both HI and LO: refused within two instructions after MFHI or MFLO
(41_cpu_alu.md R300, log 20). -/
def State.writeHiLo (s : State) (h l : Reg) : Result :=
  if s.hiRd = .none ∧ s.loRd = .none then .next (s.putHiLo h l).complete else .refused .hiLoHazard

/-- A 32-bit multiply or divide: the two words sign-extended, or `UNDEF_64` in both registers when
an operand is no word value (41_cpu_alu.md R260). -/
def State.writeHiLoWords (s : State) (wordValues : Bool) (h l : BitVec 32) : Result :=
  if wordValues then s.writeHiLo (Reg.of (wordResult h)) (Reg.of (wordResult l))
  else s.writeHiLo Reg.unknown Reg.unknown

/-- The result of a division that the spec leaves undefined: `UNDEF_64` in both registers
(41_cpu_alu.md R313). -/
def State.undefHiLo (s : State) : Result := s.writeHiLo Reg.unknown Reg.unknown

/-- MULT (41_cpu_alu.md R301). -/
def execMult (rs rt : RegNum) (s : State) : Result :=
  let prod : BitVec 64 := BitVec.ofInt 64 ((lowWord (s.x .rs rs)).toInt * (lowWord (s.x .rt rt)).toInt)
  s.writeHiLoWords (s.wordOperands rs rt) (prod.extractLsb' 32 32) (prod.extractLsb' 0 32)

/-- MULTU (41_cpu_alu.md R302). -/
def execMultu (rs rt : RegNum) (s : State) : Result :=
  let prod : BitVec 64 := BitVec.ofNat 64 ((lowWord (s.x .rs rs)).toNat * (lowWord (s.x .rt rt)).toNat)
  s.writeHiLoWords (s.wordOperands rs rt) (prod.extractLsb' 32 32) (prod.extractLsb' 0 32)

/-- DIV: quotient truncated toward zero, remainder with the sign of the dividend; undefined for a
zero divisor and for -2^31 divided by -1 (41_cpu_alu.md R303, R313). -/
def execDiv (rs rt : RegNum) (s : State) : Result :=
  let a := (lowWord (s.x .rs rs)).toInt
  let b := (lowWord (s.x .rt rt)).toInt
  if b = 0 ∨ (a = -2 ^ 31 ∧ b = -1) then s.undefHiLo
  else
    s.writeHiLoWords (s.wordOperands rs rt) (BitVec.ofInt 32 (a.tmod b)) (BitVec.ofInt 32 (a.tdiv b))

/-- DIVU (41_cpu_alu.md R304, R313). -/
def execDivu (rs rt : RegNum) (s : State) : Result :=
  let a := lowWord (s.x .rs rs)
  let b := lowWord (s.x .rt rt)
  if b = 0 then s.undefHiLo
  else
    s.writeHiLoWords (s.wordOperands rs rt) (BitVec.ofNat 32 (a.toNat % b.toNat))
      (BitVec.ofNat 32 (a.toNat / b.toNat))

/-- DMULT (41_cpu_alu.md R305). -/
def execDmult (rs rt : RegNum) (s : State) : Result :=
  let prod : BitVec 128 := BitVec.ofInt 128 ((s.x .rs rs).toInt * (s.x .rt rt).toInt)
  s.writeHiLo (Reg.of (prod.extractLsb' 64 64)) (Reg.of (prod.extractLsb' 0 64))

/-- DMULTU (41_cpu_alu.md R306). -/
def execDmultu (rs rt : RegNum) (s : State) : Result :=
  let prod : BitVec 128 := BitVec.ofNat 128 ((s.x .rs rs).toNat * (s.x .rt rt).toNat)
  s.writeHiLo (Reg.of (prod.extractLsb' 64 64)) (Reg.of (prod.extractLsb' 0 64))

/-- DDIV: undefined for a zero divisor and for -2^63 divided by -1 (41_cpu_alu.md R307, R313). -/
def execDdiv (rs rt : RegNum) (s : State) : Result :=
  let a := (s.x .rs rs).toInt
  let b := (s.x .rt rt).toInt
  if b = 0 ∨ (a = -2 ^ 63 ∧ b = -1) then s.undefHiLo
  else s.writeHiLo (Reg.of (BitVec.ofInt 64 (a.tmod b))) (Reg.of (BitVec.ofInt 64 (a.tdiv b)))

/-- DDIVU (41_cpu_alu.md R308, R313). -/
def execDdivu (rs rt : RegNum) (s : State) : Result :=
  let a := s.x .rs rs
  let b := s.x .rt rt
  if b = 0 then s.undefHiLo
  else
    s.writeHiLo (Reg.of (BitVec.ofNat 64 (a.toNat % b.toNat)))
      (Reg.of (BitVec.ofNat 64 (a.toNat / b.toNat)))

/-- MFHI; the two instructions after it may not write HI (41_cpu_alu.md R309). -/
def execMfhi (rd : RegNum) (s : State) : Result :=
  .next { (s.setX rd s.readHi).complete with hiRd := .age0 }

/-- MFLO; the two instructions after it may not write LO (41_cpu_alu.md R310). -/
def execMflo (rd : RegNum) (s : State) : Result :=
  .next { (s.setX rd s.readLo).complete with loRd := .age0 }

/-- MTHI (41_cpu_alu.md R311). -/
def execMthi (rs : RegNum) (s : State) : Result :=
  if s.hiRd = .none then .next { s with hi := Reg.of (s.x .rs rs) }.complete
  else .refused .hiLoHazard

/-- MTLO (41_cpu_alu.md R312). -/
def execMtlo (rs : RegNum) (s : State) : Result :=
  if s.loRd = .none then .next { s with lo := Reg.of (s.x .rs rs) }.complete
  else .refused .hiLoHazard

end Sys2Proof.Machine
end

