-- ==== Sys2Proof/Machine/Shift.lean ====
section
/-! DEFINITION. The shift instructions (41_cpu_alu.md R285 to R299). -/

namespace Sys2Proof.Machine

open Sys2Proof

/-- The shift amount of a word shift by a register: its low 5 bits (41_cpu_alu.md R288). -/
def State.amount5 (s : State) (rs : RegNum) : Nat := ((s.x .rs rs).setWidth 5).toNat

/-- The shift amount of a doubleword shift by a register: its low 6 bits (41_cpu_alu.md R297). -/
def State.amount6 (s : State) (rs : RegNum) : Nat := ((s.x .rs rs).setWidth 6).toNat

/-- SLL: no word-value restriction (41_cpu_alu.md R285). -/
def execSll (rd rt : RegNum) (sa : BitVec 5) (s : State) : Result :=
  s.writeX rd (wordResult (lowWord (s.x .rt rt) <<< sa.toNat))

/-- SRL (41_cpu_alu.md R286). -/
def execSrl (rd rt : RegNum) (sa : BitVec 5) (s : State) : Result :=
  s.writeWord (isWordValue (s.x .rt rt)) rd (lowWord (s.x .rt rt) >>> sa.toNat)

/-- SRA (41_cpu_alu.md R287). -/
def execSra (rd rt : RegNum) (sa : BitVec 5) (s : State) : Result :=
  s.writeWord (isWordValue (s.x .rt rt)) rd ((lowWord (s.x .rt rt)).sshiftRight sa.toNat)

/-- SLLV: no word-value restriction (41_cpu_alu.md R288). -/
def execSllv (rd rt rs : RegNum) (s : State) : Result :=
  s.writeX rd (wordResult (lowWord (s.x .rt rt) <<< s.amount5 rs))

/-- SRLV (41_cpu_alu.md R289). -/
def execSrlv (rd rt rs : RegNum) (s : State) : Result :=
  s.writeWord (isWordValue (s.x .rt rt)) rd (lowWord (s.x .rt rt) >>> s.amount5 rs)

/-- SRAV (41_cpu_alu.md R290). -/
def execSrav (rd rt rs : RegNum) (s : State) : Result :=
  s.writeWord (isWordValue (s.x .rt rt)) rd ((lowWord (s.x .rt rt)).sshiftRight (s.amount5 rs))

/-- DSLL (41_cpu_alu.md R291). -/
def execDsll (rd rt : RegNum) (sa : BitVec 5) (s : State) : Result :=
  s.writeX rd (s.x .rt rt <<< sa.toNat)

/-- DSRL (41_cpu_alu.md R292). -/
def execDsrl (rd rt : RegNum) (sa : BitVec 5) (s : State) : Result :=
  s.writeX rd (s.x .rt rt >>> sa.toNat)

/-- DSRA (41_cpu_alu.md R293). -/
def execDsra (rd rt : RegNum) (sa : BitVec 5) (s : State) : Result :=
  s.writeX rd ((s.x .rt rt).sshiftRight sa.toNat)

/-- DSLL32 (41_cpu_alu.md R294). -/
def execDsll32 (rd rt : RegNum) (sa : BitVec 5) (s : State) : Result :=
  s.writeX rd (s.x .rt rt <<< (sa.toNat + 32))

/-- DSRL32 (41_cpu_alu.md R295). -/
def execDsrl32 (rd rt : RegNum) (sa : BitVec 5) (s : State) : Result :=
  s.writeX rd (s.x .rt rt >>> (sa.toNat + 32))

/-- DSRA32 (41_cpu_alu.md R296). -/
def execDsra32 (rd rt : RegNum) (sa : BitVec 5) (s : State) : Result :=
  s.writeX rd ((s.x .rt rt).sshiftRight (sa.toNat + 32))

/-- DSLLV (41_cpu_alu.md R297). -/
def execDsllv (rd rt rs : RegNum) (s : State) : Result :=
  s.writeX rd (s.x .rt rt <<< s.amount6 rs)

/-- DSRLV (41_cpu_alu.md R298). -/
def execDsrlv (rd rt rs : RegNum) (s : State) : Result :=
  s.writeX rd (s.x .rt rt >>> s.amount6 rs)

/-- DSRAV (41_cpu_alu.md R299). -/
def execDsrav (rd rt rs : RegNum) (s : State) : Result :=
  s.writeX rd ((s.x .rt rt).sshiftRight (s.amount6 rs))

end Sys2Proof.Machine
end

