-- ==== Sys2Proof/Machine/Store.lean ====
section
/-! DEFINITION. The aligned stores (40_cpu_load_store.md R209 to R212). -/

namespace Sys2Proof.Machine

open Sys2Proof

/-- SB (40_cpu_load_store.md R209). -/
def execSb (rt : RegNum) (offset : BitVec 16) (base : RegNum) (s : State) : Result :=
  s.store (s.effAddr base offset) 1 (s.x .rt rt)

/-- SH (40_cpu_load_store.md R210). -/
def execSh (rt : RegNum) (offset : BitVec 16) (base : RegNum) (s : State) : Result :=
  s.store (s.effAddr base offset) 2 (s.x .rt rt)

/-- SW (40_cpu_load_store.md R211). -/
def execSw (rt : RegNum) (offset : BitVec 16) (base : RegNum) (s : State) : Result :=
  offsetCheck offset 2 <|
    s.store (s.effAddr base offset) 4 (s.x .rt rt)

/-- SD (40_cpu_load_store.md R212). -/
def execSd (rt : RegNum) (offset : BitVec 16) (base : RegNum) (s : State) : Result :=
  offsetCheck offset 3 <|
    s.store (s.effAddr base offset) 8 (s.x .rt rt)

end Sys2Proof.Machine
end

