-- ==== Sys2Proof/Machine/Trap.lean ====
section
/-! DEFINITION. The exception instructions (43_cpu_misc.md R380 to R393, R404). -/

namespace Sys2Proof.Machine

open Sys2Proof

/-- A trap instruction: the exception when the condition holds, else nothing
(43_cpu_misc.md R404). -/
def State.trapIf (s : State) (cond : Bool) : Result :=
  if cond then .next (s.raise .trap) else .next s.complete

/-- SYSCALL; the code field is ignored (43_cpu_misc.md R380). -/
def execSyscall (_code : BitVec 20) (s : State) : Result := .next (s.raise .systemCall)

/-- BREAK; the code field is ignored (43_cpu_misc.md R381). -/
def execBrk (_code : BitVec 20) (s : State) : Result := .next (s.raise .breakpoint)

/-- TGE; the code field is ignored (43_cpu_misc.md R382). -/
def execTge (rs rt : RegNum) (_code : BitVec 10) (s : State) : Result :=
  s.trapIf (!(s.x .rs rs).slt (s.x .rt rt))

/-- TGEU; the code field is ignored (43_cpu_misc.md R383). -/
def execTgeu (rs rt : RegNum) (_code : BitVec 10) (s : State) : Result :=
  s.trapIf (!(s.x .rs rs).ult (s.x .rt rt))

/-- TLT; the code field is ignored (43_cpu_misc.md R384). -/
def execTlt (rs rt : RegNum) (_code : BitVec 10) (s : State) : Result :=
  s.trapIf ((s.x .rs rs).slt (s.x .rt rt))

/-- TLTU; the code field is ignored (43_cpu_misc.md R385). -/
def execTltu (rs rt : RegNum) (_code : BitVec 10) (s : State) : Result :=
  s.trapIf ((s.x .rs rs).ult (s.x .rt rt))

/-- TEQ; the code field is ignored (43_cpu_misc.md R386). -/
def execTeq (rs rt : RegNum) (_code : BitVec 10) (s : State) : Result :=
  s.trapIf (s.x .rs rs == (s.x .rt rt))

/-- TNE; the code field is ignored (43_cpu_misc.md R387). -/
def execTne (rs rt : RegNum) (_code : BitVec 10) (s : State) : Result :=
  s.trapIf (s.x .rs rs != (s.x .rt rt))

/-- TGEI (43_cpu_misc.md R388). -/
def execTgei (rs : RegNum) (imm : BitVec 16) (s : State) : Result :=
  s.trapIf (!(s.x .rs rs).slt (imm.signExtend 64))

/-- TGEIU (43_cpu_misc.md R389). -/
def execTgeiu (rs : RegNum) (imm : BitVec 16) (s : State) : Result :=
  s.trapIf (!(s.x .rs rs).ult (imm.signExtend 64))

/-- TLTI (43_cpu_misc.md R390). -/
def execTlti (rs : RegNum) (imm : BitVec 16) (s : State) : Result :=
  s.trapIf ((s.x .rs rs).slt (imm.signExtend 64))

/-- TLTIU (43_cpu_misc.md R391). -/
def execTltiu (rs : RegNum) (imm : BitVec 16) (s : State) : Result :=
  s.trapIf ((s.x .rs rs).ult (imm.signExtend 64))

/-- TEQI (43_cpu_misc.md R392). -/
def execTeqi (rs : RegNum) (imm : BitVec 16) (s : State) : Result :=
  s.trapIf (s.x .rs rs == (imm.signExtend 64))

/-- TNEI (43_cpu_misc.md R393). -/
def execTnei (rs : RegNum) (imm : BitVec 16) (s : State) : Result :=
  s.trapIf (s.x .rs rs != (imm.signExtend 64))

end Sys2Proof.Machine
end

