-- ==== Sys2Proof/Machine/Unaligned.lean ====
section
/-! DEFINITION. The unaligned loads and stores (40_cpu_load_store.md R213 to R221). -/

namespace Sys2Proof.Machine

open Sys2Proof

/-- The manual's variable `byte`: the place of `va` in its aligned object of `n` bytes, counted from
the end that is least significant (40_cpu_load_store.md R213). -/
def State.byteIndex (s : State) (va : Word) (n : Nat) : Nat :=
  if s.bigEndianCpu then n - 1 - va.toNat % n else va.toNat % n

/-- The address of the aligned object of `n` bytes that contains `va`. -/
def alignDown (va : Word) (n : Nat) : Word := va - BitVec.ofNat 64 (va.toNat % n)

/-- The first address of the bytes a left instruction moves (40_cpu_load_store.md R213). -/
def State.leftFirst (s : State) (va : Word) (n : Nat) : Word :=
  if s.bigEndianCpu then va else alignDown va n

/-- The first address of the bytes a right instruction moves (40_cpu_load_store.md R213). -/
def State.rightFirst (s : State) (va : Word) (n : Nat) : Word :=
  if s.bigEndianCpu then alignDown va n else va

/-- The low `k` bits set. -/
def lowMask (k : Nat) : Word := BitVec.ofNat 64 (2 ^ k - 1)

/-- The most significant `byte + 1` bytes of an object of `n` bytes come from memory (`m`), the rest
from the register (40_cpu_load_store.md R214, R218). -/
def mergeLeft (n byte : Nat) (m old : Word) : Word :=
  (m <<< (8 * (n - 1 - byte))) ||| (old &&& lowMask (8 * (n - 1 - byte)))

/-- The least significant `n - byte` bytes come from memory (`m`), the rest from the register
(40_cpu_load_store.md R215, R219). -/
def mergeRight (n byte : Nat) (m old : Word) : Word :=
  m ||| (old &&& ~~~lowMask (8 * (n - byte)))

/-- An unaligned load of `k` bytes from `first` up; `write` gets their value
(40_cpu_load_store.md R213). -/
def State.loadPart (s : State) (va first : Word) (k : Nat) (write : State → Word → State) : Result :=
  match s.readBytes va first k with
  | .error e => .next (s.raise e)
  | .ok bs => .next (write s.disturbLink (valueOfBytes s.bigEndianCpu bs)).complete

/-- An unaligned store of the low `k` bytes of `v` from `first` up (40_cpu_load_store.md R213). -/
def State.storePart (s : State) (va first : Word) (k : Nat) (v : Word) : Result :=
  match s.writeBytes va first (bytesOfValue s.bigEndianCpu v k) with
  | .error e => .next (s.raise e)
  | .ok s' => .next s'.disturbLink.complete

/-- LWL (40_cpu_load_store.md R214). -/
def execLwl (rt : RegNum) (offset : BitVec 16) (base : RegNum) (s : State) : Result :=
  let va := s.effAddr base offset
  let byte := s.byteIndex va 4
  s.loadPart va (s.leftFirst va 4) (byte + 1) fun t m =>
    t.setX rt (wordResult (lowWord (mergeLeft 4 byte m (s.x .rt rt))))

/-- LWR: bit 31 of the result is loaded only when `byte` = 0; otherwise bits 63..32 follow the
parameter `LWRUpper` (40_cpu_load_store.md R215). -/
def execLwr (rt : RegNum) (offset : BitVec 16) (base : RegNum) (s : State) : Result :=
  let va := s.effAddr base offset
  let byte := s.byteIndex va 4
  let old := s.x .rt rt
  s.loadPart va (s.rightFirst va 4) (4 - byte) fun t m =>
    let word := lowWord (mergeRight 4 byte m old)
    t.setX rt
      (if byte = 0 then wordResult word
       else
         match s.cfg.lwrUpper with
         | .keep => old.extractLsb' 32 32 ++ word
         | .signExtend => wordResult word)

/-- SWL (40_cpu_load_store.md R216). -/
def execSwl (rt : RegNum) (offset : BitVec 16) (base : RegNum) (s : State) : Result :=
  let va := s.effAddr base offset
  let byte := s.byteIndex va 4
  s.storePart va (s.leftFirst va 4) (byte + 1) (s.x .rt rt >>> (8 * (3 - byte)))

/-- SWR (40_cpu_load_store.md R217). -/
def execSwr (rt : RegNum) (offset : BitVec 16) (base : RegNum) (s : State) : Result :=
  let va := s.effAddr base offset
  s.storePart va (s.rightFirst va 4) (4 - s.byteIndex va 4) (s.x .rt rt)

/-- LDL (40_cpu_load_store.md R218). -/
def execLdl (rt : RegNum) (offset : BitVec 16) (base : RegNum) (s : State) : Result :=
  let va := s.effAddr base offset
  let byte := s.byteIndex va 8
  s.loadPart va (s.leftFirst va 8) (byte + 1) fun t m =>
    t.setX rt (mergeLeft 8 byte m (s.x .rt rt))

/-- LDR (40_cpu_load_store.md R219). -/
def execLdr (rt : RegNum) (offset : BitVec 16) (base : RegNum) (s : State) : Result :=
  let va := s.effAddr base offset
  let byte := s.byteIndex va 8
  s.loadPart va (s.rightFirst va 8) (8 - byte) fun t m =>
    t.setX rt (mergeRight 8 byte m (s.x .rt rt))

/-- SDL (40_cpu_load_store.md R220). -/
def execSdl (rt : RegNum) (offset : BitVec 16) (base : RegNum) (s : State) : Result :=
  let va := s.effAddr base offset
  let byte := s.byteIndex va 8
  s.storePart va (s.leftFirst va 8) (byte + 1) (s.x .rt rt >>> (8 * (7 - byte)))

/-- SDR (40_cpu_load_store.md R221). -/
def execSdr (rt : RegNum) (offset : BitVec 16) (base : RegNum) (s : State) : Result :=
  let va := s.effAddr base offset
  s.storePart va (s.rightFirst va 8) (8 - s.byteIndex va 8) (s.x .rt rt)

end Sys2Proof.Machine
end

