-- ==== Sys2Proof/Machine/Step.lean ====
section
/-! DEFINITION. The machine step (70_reset_and_hazards.md R681), and placing the word it fetches
next. -/

namespace Sys2Proof.Machine

open Sys2Proof

/-- One step: a machine that holds a trap record is terminal, or a client's `Handler` continues it; else
the interrupt oracle is asked, the word at `pc` is fetched and decoded, and the instruction executes
(70_reset_and_hazards.md R681). -/
def step (s : State) : Host.Outcome State Fault Refusal :=
  if s.trap.isSome then s.handle
  else if s.interrupted then .next (s.popInterrupt.raise .interrupt)
  else
    match s.popInterrupt.fetch with
    | .error r => r
    | .ok bs =>
      match decodeBytes s.bigEndianCpu bs with
      | .ok i => exec i s.popInterrupt
      | .error e => s.popInterrupt.badWord e

/-- The state with an instruction word placed where the next step fetches, and nothing pending that
would keep that step from running it (log 29). -/
def State.withFetchWord (s : State) (_nbits w : Nat) : State :=
  s.placeWord (bytesOfWord s.bigEndianCpu (BitVec.ofNat 32 w))

end Sys2Proof.Machine
end

