-- ==== Sys2Proof/WellFormed.lean ====
section
/-! DEFINITION. The static restrictions on an instruction. A word that breaks one decodes, and the
machine refuses to give it a meaning (00_scope.md R13, UNDEFINED INSTRUCTION). -/

namespace Sys2Proof

/-- The instruction breaks none of the restrictions that its fields alone decide: the offset field
of a word (doubleword) access has its low 2 (3) bits zero (20_memory.md R95); a linking branch does
not read GPR 31, and JALR's rd differs from its rs (42_cpu_jump_branch.md R342). -/
def Instr.WellFormed : Instr → Bool
  | .lw _ offset _ => lowZero offset 2
  | .lwu _ offset _ => lowZero offset 2
  | .ld _ offset _ => lowZero offset 3
  | .sw _ offset _ => lowZero offset 2
  | .sd _ offset _ => lowZero offset 3
  | .ll _ offset _ => lowZero offset 2
  | .lld _ offset _ => lowZero offset 3
  | .sc _ offset _ => lowZero offset 2
  | .scd _ offset _ => lowZero offset 3
  | .lwc2 _ offset _ => lowZero offset 2
  | .ldc2 _ offset _ => lowZero offset 3
  | .swc2 _ offset _ => lowZero offset 2
  | .sdc2 _ offset _ => lowZero offset 3
  | .lwc1 _ offset _ => lowZero offset 2
  | .ldc1 _ offset _ => lowZero offset 3
  | .swc1 _ offset _ => lowZero offset 2
  | .sdc1 _ offset _ => lowZero offset 3
  | .jalr rd rs => rd != rs
  | .bltzal rs _ => rs != 31
  | .bgezal rs _ => rs != 31
  | .bltzall rs _ => rs != 31
  | .bgezall rs _ => rs != 31
  | .addi .. | .addiu .. | .slti .. | .sltiu .. | .andi .. | .ori .. | .xori .. | .lui ..
  | .daddi .. | .daddiu .. | .lb .. | .lbu .. | .lh .. | .lhu .. | .sb .. | .sh .. | .lwl ..
  | .lwr .. | .swl .. | .swr .. | .ldl .. | .ldr .. | .sdl .. | .sdr .. | .pref .. | .add ..
  | .addu .. | .sub .. | .subu .. | .and .. | .or .. | .xor .. | .nor .. | .slt .. | .sltu ..
  | .dadd .. | .daddu .. | .dsub .. | .dsubu .. | .movz .. | .movn .. | .sll .. | .srl ..
  | .sra .. | .dsll .. | .dsrl .. | .dsra .. | .dsll32 .. | .dsrl32 .. | .dsra32 .. | .sllv ..
  | .srlv .. | .srav .. | .dsllv .. | .dsrlv .. | .dsrav .. | .mult .. | .multu .. | .div ..
  | .divu .. | .dmult .. | .dmultu .. | .ddiv .. | .ddivu .. | .mfhi .. | .mthi .. | .mflo ..
  | .mtlo .. | .jr .. | .syscall .. | .brk .. | .sync .. | .tge .. | .tgeu .. | .tlt ..
  | .tltu .. | .teq .. | .tne .. | .movf .. | .movt .. | .bltz .. | .bgez .. | .bltzl ..
  | .bgezl .. | .tgei .. | .tgeiu .. | .tlti .. | .tltiu .. | .teqi .. | .tnei .. | .j ..
  | .jal .. | .beq .. | .bne .. | .blez .. | .bgtz .. | .beql .. | .bnel .. | .blezl ..
  | .bgtzl .. | .cop0 .. | .cop2 .. | .mfc1 .. | .dmfc1 .. | .cfc1 .. | .mtc1 .. | .dmtc1 ..
  | .ctc1 .. | .bc1f .. | .bc1t .. | .bc1fl .. | .bc1tl .. | .addS .. | .addD .. | .subS ..
  | .subD .. | .mulS .. | .mulD .. | .divS .. | .divD .. | .sqrtS .. | .sqrtD .. | .absS ..
  | .absD .. | .movS .. | .movD .. | .negS .. | .negD .. | .roundLS .. | .roundLD ..
  | .truncLS .. | .truncLD .. | .ceilLS .. | .ceilLD .. | .floorLS .. | .floorLD ..
  | .roundWS .. | .roundWD .. | .truncWS .. | .truncWD .. | .ceilWS .. | .ceilWD ..
  | .floorWS .. | .floorWD .. | .recipS .. | .recipD .. | .rsqrtS .. | .rsqrtD .. | .movfS ..
  | .movtS .. | .movzS .. | .movnS .. | .movfD .. | .movtD .. | .movzD .. | .movnD ..
  | .cvtSD .. | .cvtSW .. | .cvtSL .. | .cvtDS .. | .cvtDW .. | .cvtDL .. | .cvtWS ..
  | .cvtWD .. | .cvtLS .. | .cvtLD .. | .cFS .. | .cUnS .. | .cEqS .. | .cUeqS .. | .cOltS ..
  | .cUltS .. | .cOleS .. | .cUleS .. | .cSfS .. | .cNgleS .. | .cSeqS .. | .cNglS ..
  | .cLtS .. | .cNgeS .. | .cLeS .. | .cNgtS .. | .cFD .. | .cUnD .. | .cEqD .. | .cUeqD ..
  | .cOltD .. | .cUltD .. | .cOleD .. | .cUleD .. | .cSfD .. | .cNgleD .. | .cSeqD ..
  | .cNglD .. | .cLtD .. | .cNgeD .. | .cLeD .. | .cNgtD .. | .lwxc1 .. | .ldxc1 .. | .swxc1 ..
  | .sdxc1 .. | .prefx .. | .maddS .. | .maddD .. | .msubS .. | .msubD .. | .nmaddS ..
  | .nmaddD .. | .nmsubS .. | .nmsubD .. => true

end Sys2Proof
end

