-- ==== Sys2Proof/Safety.lean ====
section
/-! DEFINITION. The terms the statements use: what it means that a register holds a value, what an
instruction leaves unchanged, how it completes and what a raised exception leaves, the invariant of
the machine, and the classes of instructions that may write each kind of state. -/

namespace Sys2Proof

/-- The parameter values 00_scope.md R8 admits, and 70_reset_and_hazards.md R650's ResetPC. -/
def Config.Valid (c : Config) : Prop :=
  8 ≤ c.psize ∧ c.psize ≤ 64 ∧ c.resetPC.toNat % 4 = 0

/-- The instruction stores to memory when it completes (20_memory.md R91, R92). -/
def Instr.isStore : Instr → Bool
  | .sb .. | .sh .. | .sw .. | .sd .. | .swl .. | .swr .. | .sdl .. | .sdr .. | .sc .. | .scd ..
  | .swc1 .. | .sdc1 .. | .swxc1 .. | .sdxc1 .. => true
  | _ => false

/-- The instruction writes both HI and LO (10_state.md R35). -/
def Instr.isMulDiv : Instr → Bool
  | .mult .. | .multu .. | .div .. | .divu .. | .dmult .. | .dmultu .. | .ddiv .. | .ddivu .. => true
  | _ => false

/-- The instruction may write HI (10_state.md R35). -/
def Instr.writesHi : Instr → Bool
  | .mthi .. => true
  | i => i.isMulDiv

/-- The instruction may write LO (10_state.md R35). -/
def Instr.writesLo : Instr → Bool
  | .mtlo .. => true
  | i => i.isMulDiv

/-- LL and LLD (10_state.md R39). -/
def Instr.isLinkedLoad : Instr → Bool
  | .ll .. | .lld .. => true
  | _ => false

/-- The opcode class of an instruction is one of coprocessor 1's: COP1, COP1X, LWC1, LDC1, SWC1, SDC1,
or the instruction is MOVF or MOVT (60_exceptions.md R606). -/
def Instr.usesCop1 (i : Instr) : Bool :=
  match i with
  | .movf .. | .movt .. => true
  | i => [0x11#6, 0x13#6, 0x31#6, 0x35#6, 0x39#6, 0x3d#6].contains (opF (encode i))

/-- The opcode class of an instruction is one of coprocessor 2's: COP2, LWC2, LDC2, SWC2, SDC2
(60_exceptions.md R606). -/
def Instr.usesCop2 (i : Instr) : Bool :=
  [0x12#6, 0x32#6, 0x36#6, 0x3a#6, 0x3e#6].contains (opF (encode i))

/-- A jump or branch: an instruction that has a delay slot (42_cpu_jump_branch.md R340). -/
def Instr.isJump : Instr → Bool
  | .j .. | .jal .. | .jr .. | .jalr .. | .beq .. | .bne .. | .blez .. | .bgtz .. | .beql .. | .bnel ..
  | .blezl .. | .bgtzl .. | .bltz .. | .bgez .. | .bltzal .. | .bgezal .. | .bltzl .. | .bgezl ..
  | .bltzall .. | .bgezall .. | .bc1f .. | .bc1t .. | .bc1fl .. | .bc1tl .. => true
  | _ => false

/-- C.cond.fmt (46_fpu_arith.md R514). -/
def Instr.isCompare : Instr → Bool
  | .cFS .. | .cUnS .. | .cEqS .. | .cUeqS .. | .cOltS .. | .cUltS .. | .cOleS .. | .cUleS .. | .cSfS ..
  | .cNgleS .. | .cSeqS .. | .cNglS .. | .cLtS .. | .cNgeS .. | .cLeS .. | .cNgtS .. | .cFD ..
  | .cUnD .. | .cEqD .. | .cUeqD .. | .cOltD .. | .cUltD .. | .cOleD .. | .cUleD .. | .cSfD ..
  | .cNgleD .. | .cSeqD .. | .cNglD .. | .cLtD .. | .cNgeD .. | .cLeD .. | .cNgtD .. => true
  | _ => false

/-- A conversion, or a rounding to fixed point (47_fpu_convert_move_branch.md R540 to R551). -/
def Instr.isConvert : Instr → Bool
  | .cvtSD .. | .cvtSW .. | .cvtSL .. | .cvtDS .. | .cvtDW .. | .cvtDL .. | .cvtWS .. | .cvtWD ..
  | .cvtLS .. | .cvtLD .. | .roundWS .. | .roundWD .. | .roundLS .. | .roundLD .. | .truncWS ..
  | .truncWD .. | .truncLS .. | .truncLD .. | .ceilWS .. | .ceilWD .. | .ceilLS .. | .ceilLD ..
  | .floorWS .. | .floorWD .. | .floorLS .. | .floorLD .. => true
  | _ => false

/-- An arithmetic instruction of the FPU (46_fpu_arith.md R500 to R513). -/
def Instr.isFpArith : Instr → Bool
  | .addS .. | .addD .. | .subS .. | .subD .. | .mulS .. | .mulD .. | .divS .. | .divD .. | .sqrtS ..
  | .sqrtD .. | .absS .. | .absD .. | .negS .. | .negD .. | .recipS .. | .recipD .. | .rsqrtS ..
  | .rsqrtD .. | .maddS .. | .maddD .. | .msubS .. | .msubD .. | .nmaddS .. | .nmaddD .. | .nmsubS ..
  | .nmsubD .. => true
  | _ => false

/-- An instruction that finishes through FPResult (44_fpu_model.md R444). -/
def Instr.finishesFp (i : Instr) : Bool := i.isFpArith || i.isConvert || i.isCompare

/-- A transfer into a coprocessor 1 general register (45_fpu_transfer.md). -/
def Instr.isFpLoad : Instr → Bool
  | .lwc1 .. | .ldc1 .. | .lwxc1 .. | .ldxc1 .. | .mtc1 .. | .dmtc1 .. => true
  | _ => false

/-- A formatted move (47_fpu_convert_move_branch.md R560 to R564). -/
def Instr.isFpMove : Instr → Bool
  | .movS .. | .movD .. | .movfS .. | .movfD .. | .movtS .. | .movtD .. | .movnS .. | .movnD ..
  | .movzS .. | .movzD .. => true
  | _ => false

namespace Machine

/-! ### What a register holds -/

/-- The cell of general register `r`; `x[0]` is the constant 0 (10_state.md R31). -/
def State.cellX (s : State) (r : RegNum) : Reg := if r = 0 then Reg.of 0 else s.gpr[r.toNat]

/-- `x[r]` holds `v`; register 0 holds 0 whatever was written to it (10_state.md R31). -/
def State.Holds (s : State) (r : RegNum) (v : Word) : Prop :=
  s.cellX r = Reg.of (if r = 0 then 0 else v)

/-- `x[r]` holds `UNDEF_64`, but register 0 holds 0 (00_scope.md R13, 10_state.md R31). -/
def State.Undefined (s : State) (r : RegNum) : Prop :=
  s.cellX r = if r = 0 then Reg.of 0 else Reg.unknown

/-- FPR `n` holds the pattern `v` of format `fmt`, for S and W in its low word: every bit is defined,
`n` is a number the register model allows, and with format tags the tag is this format or
uninterpreted (44_fpu_model.md R430, R432, R433). -/
def State.FprHolds (s : State) (n : RegNum) (fmt : Fmt) (v : Word) : Prop :=
  s.validFpr n = true ∧ s.fprCell n fmt = Reg.of v ∧
    (s.cfg.fprTags = .strict → s.tag n = .is fmt ∨ s.tag n = .uninterpreted)

/-- FPR `n` holds a result of format `fmt` (44_fpu_model.md R431): a valid number holds it with that
tag; an invalid one of the 32-bit model leaves `UNDEF_32` in both registers of its pair and the tag
unknown (R433, log 26). -/
def State.FprResult (s : State) (n : RegNum) (fmt : Fmt) (v : Word) : Prop :=
  if s.validFpr n then
    s.fprCell n fmt = Reg.of (v &&& fmtMask fmt) ∧ (s.cfg.fprTags = .strict → s.tag n = .is fmt)
  else
    s.fgr[n.toNat] = { val := 0, undef := lowHalf } ∧
      s.fgr[(n ^^^ 1).toNat] = { val := 0, undef := lowHalf } ∧
      (s.cfg.fprTags = .strict → s.tag n = .unknown)

/-- The CP1 general registers that FPR `n` is made of (10_state.md R42). -/
def State.fprRegs (s : State) (n : RegNum) : List RegNum :=
  if s.cfg.fgr64 then [n] else [n, n ^^^ 1]

/-! ### What an instruction leaves unchanged -/

/-- The state an instruction may write, besides the program counter and the HI/LO read records. -/
structure Footprint where
  gprs : List RegNum := []
  hi : Bool := false
  lo : Bool := false
  fgrs : List RegNum := []
  tags : List RegNum := []
  fcsr : Bool := false
  llBit : Bool := false
  llAddr : Bool := false
  /-- The physical addresses of the bytes it stores to. -/
  bytes : List Nat := []

/-- From `s` to `t` nothing has changed outside the footprint: no general register, HI, LO, CP1
general register, format tag, FCSR, link bit or address, byte of memory, defined or not, record of
stored bytes, parameter, trap record or pending interrupt answer. -/
structure Frame (s t : State) (w : Footprint) : Prop where
  gpr : ∀ r : RegNum, r ∉ w.gprs ∨ r = 0 → t.gpr[r.toNat] = s.gpr[r.toNat]
  hi : w.hi = false → t.hi = s.hi
  lo : w.lo = false → t.lo = s.lo
  fgr : ∀ n : RegNum, n ∉ w.fgrs → t.fgr[n.toNat] = s.fgr[n.toNat]
  tags : ∀ n : RegNum, n ∉ w.tags → t.tags[n.toNat] = s.tags[n.toNat]
  fcsr : w.fcsr = false → t.fcsr = s.fcsr
  llBit : w.llBit = false → t.llBit = s.llBit
  llAddr : w.llAddr = false → t.llAddr = s.llAddr
  mem : ∀ a, a ∉ w.bytes → t.mem.read a = s.mem.read a
  stored : ∀ a, a ∈ t.stored ↔ a ∈ s.stored ∨ a ∈ w.bytes
  undefMem : ∀ a, a ∉ w.bytes → (a ∈ t.undefMem ↔ a ∈ s.undefMem)
  cfg : t.cfg = s.cfg
  trap : t.trap = s.trap
  intPending : t.intPending = s.intPending

/-! ### How an instruction completes -/

/-- The HI/LO read records are one completed instruction older (41_cpu_alu.md R300). -/
def Aged (s t : State) : Prop := t.hiRd = s.hiRd.older ∧ t.loRd = s.loRd.older

/-- `pc <- npc; npc <- npc + 4; bd <- 0` (42_cpu_jump_branch.md R340). -/
def Advanced (s t : State) : Prop := t.pc = s.npc ∧ t.npc = s.npc + 4 ∧ t.bd = false

/-- The delay slot comes next and the target, or for a branch not taken the instruction after the
slot, follows it (42_cpu_jump_branch.md R340). -/
def Jumped (s t : State) (taken : Prop) [Decidable taken] (target : Word) : Prop :=
  t.pc = s.npc ∧ t.npc = (if taken then target else s.npc + 4) ∧ t.bd = true

/-- As `Jumped`; a branch likely that is not taken skips its delay slot (42_cpu_jump_branch.md R340). -/
def JumpedLikely (s t : State) (taken : Prop) [Decidable taken] (target : Word) : Prop :=
  if taken then t.pc = s.npc ∧ t.npc = target ∧ t.bd = true
  else t.pc = s.npc + 4 ∧ t.npc = s.npc + 8 ∧ t.bd = false

/-- The instruction completes in sequence, writing no more than the footprint, and `post` holds of the
state after. -/
def Completes (i : Instr) (s : State) (w : Footprint) (post : State → Prop) : Prop :=
  ∃ t, exec i s = .next t ∧ Advanced s t ∧ Aged s t ∧ Frame s t w ∧ post t

/-- The instruction completes and its one effect is that `x[r]` holds a value with the property `P`. -/
def WritesX (i : Instr) (s : State) (r : RegNum) (P : Word → Prop) : Prop :=
  ∃ v, P v ∧ Completes i s { gprs := [r] } fun t => t.Holds r v

/-- The instruction completes and its one effect is that `x[r]` holds `UNDEF_64`. -/
def UndefinesX (i : Instr) (s : State) (r : RegNum) : Prop :=
  Completes i s { gprs := [r] } fun t => t.Undefined r

/-- The instruction completes and its one effect is that HI and LO hold values with the property
`P`. -/
def WritesHiLo (i : Instr) (s : State) (P : Word → Word → Prop) : Prop :=
  ∃ h l, P h l ∧ Completes i s { hi := true, lo := true } fun t => t.hi = Reg.of h ∧ t.lo = Reg.of l

/-- The instruction completes and its one effect is that HI and LO hold `UNDEF_64`. -/
def UndefinesHiLo (i : Instr) (s : State) : Prop :=
  Completes i s { hi := true, lo := true } fun t => t.hi = Reg.unknown ∧ t.lo = Reg.unknown

/-- `v` is the sign extension of its low 32 bits: the negation of `NotWordValue` (10_state.md R33). -/
def WordValue (v : Word) : Prop := -2 ^ 31 ≤ v.toInt ∧ v.toInt < 2 ^ 31

/-- The instruction jumps: the delay slot runs, then the instruction at `target` if `taken`, and it
writes no more than the footprint. -/
def Branches (i : Instr) (s : State) (taken : Prop) [Decidable taken] (target : Word) (w : Footprint)
    (post : State → Prop) : Prop :=
  ∃ t, exec i s = .next t ∧ Jumped s t taken target ∧ Aged s t ∧ Frame s t w ∧ post t

/-- As `Branches`, for the branches likely. -/
def BranchesLikely (i : Instr) (s : State) (taken : Prop) [Decidable taken] (target : Word)
    (w : Footprint) (post : State → Prop) : Prop :=
  ∃ t, exec i s = .next t ∧ JumpedLikely s t taken target ∧ Aged s t ∧ Frame s t w ∧ post t

/-! ### Exceptions -/

/-- The state after an exception (60_exceptions.md R620): the trap record, LLbit and the HI/LO records
cleared, and nothing else changed but perhaps the FCSR. -/
structure Trapped (s t : State) (e : Exc) : Prop where
  record : t.trap = some { kind := e, victimPc := s.pc, bd := s.bd,
                           restartPc := if s.bd = true then s.pc - 4 else s.pc }
  llBit : t.llBit = false
  hiRd : t.hiRd = .none
  loRd : t.loRd = .none
  pc : t.pc = s.pc
  npc : t.npc = s.npc
  bd : t.bd = s.bd
  gpr : t.gpr = s.gpr
  hi : t.hi = s.hi
  lo : t.lo = s.lo
  llAddr : t.llAddr = s.llAddr
  fgr : t.fgr = s.fgr
  tags : t.tags = s.tags
  mem : t.mem = s.mem
  stored : t.stored = s.stored
  undefMem : t.undefMem = s.undefMem
  cfg : t.cfg = s.cfg
  intPending : t.intPending = s.intPending

/-- The instruction raises an exception and writes no destination (60_exceptions.md R620). -/
def Raises (i : Instr) (s : State) (e : Exc) : Prop :=
  ∃ t, exec i s = .next t ∧ Trapped s t e ∧ t.fcsr = s.fcsr

/-- The instruction raises a Floating-Point exception, leaving `fcsr` in the FCSR
(44_fpu_model.md R444, 60_exceptions.md R607). -/
def RaisesFp (i : Instr) (s : State) (fcsr : BitVec 32) : Prop :=
  ∃ t, exec i s = .next t ∧ Trapped s t .floatingPoint ∧ t.fcsr = fcsr

/-- An access of `n` bytes at `va`, aligned as `n` asks: misaligned, it raises Address Error; aligned, it
raises what translation or the memory system answers (20_memory.md R93, R96). -/
def AccessRaises (i : Instr) (s : State) (va : Word) (n : Nat) (k : Access) : Prop :=
  (va.toNat % n ≠ 0 → Raises i s (.addressError va k)) ∧
    ∀ e, va.toNat % n = 0 → s.locate va va n k = .error e → Raises i s e

/-- The instruction loads the value `m` of the `n` bytes at `va` (40_cpu_load_store.md R201): when the
access succeeds, `x[rt]` holds a value related to `m` by `P`. LLbit, if it was 1, is left open
(40_cpu_load_store.md R226). -/
def LoadsX (i : Instr) (s : State) (rt : RegNum) (va : Word) (n : Nat) (P : Word → Word → Prop) : Prop :=
  ∀ as, va.toNat % n = 0 → s.locate va va n .load = .ok as →
    ∃ v, P (valueOfBytes s.bigEndianCpu (as.map s.readByte)) v ∧
      Completes i s { gprs := [rt], llBit := s.llBit } fun t => t.Holds rt v

/-- The bytes at `as` are defined, and in the byte order of the program hold the number `m`. -/
def State.HoldsBytes (s : State) (as : List Nat) (m : Nat) : Prop :=
  (∀ a ∈ as, a ∉ s.undefMem) ∧ (valueOfBytes s.bigEndianCpu (as.map s.mem.read)).toNat = m

/-- The instruction stores the low `n` bytes of `v` at `va` (40_cpu_load_store.md R201): when the access
succeeds, the bytes located for it hold them afterwards and no other byte has changed. -/
def Stores (i : Instr) (s : State) (va : Word) (n : Nat) (v : Word) : Prop :=
  ∀ as, va.toNat % n = 0 → s.locate va va n .store = .ok as →
    Completes i s { bytes := as, llBit := s.llBit } fun t =>
      t.HoldsBytes as (v.toNat % 2 ^ (8 * n))

/-- The instruction stores UNDEF to the `n` bytes at `va`: when the access succeeds, the bytes located for
it are undefined afterwards, each read of one being a new draw, and no other byte has changed
(00_scope.md R13, 45_fpu_transfer.md R485). -/
def StoresUndef (i : Instr) (s : State) (va : Word) (n : Nat) : Prop :=
  ∀ as, va.toNat % n = 0 → s.locate va va n .store = .ok as →
    Completes i s { bytes := as, llBit := s.llBit } fun t => ∀ a ∈ as, a ∈ t.undefMem

/-! ### The FCSR after an FPU operation -/

/-- `f'` is the FCSR `f` after conditions `c` were raised without a trap: the cause field is `c`, the
flags of `c` are added to the flags, and every other bit is as it was (44_fpu_model.md R444). -/
def FcsrRaised (f f' : BitVec 32) (c : Conds) : Prop :=
  fcsrCause f' = c ∧ fcsrFlags f' = fcsrFlags f ||| (c &&& ~~~condE) ∧
    f' &&& 0xfffc0f83 = f &&& 0xfffc0f83

/-- `f'` is the FCSR `f` with the cause field `c` and every other bit as it was
(44_fpu_model.md R444). -/
def FcsrTrapped (f f' : BitVec 32) (c : Conds) : Prop :=
  fcsrCause f' = c ∧ f' &&& 0xfffc0fff = f &&& 0xfffc0fff

/-- The instruction finishes as FPResult says for the conditions `c` (44_fpu_model.md R444): on a trap
it raises Floating-Point, the cause field is `c` and nothing else is written; else it completes, the
cause and flags record `c`, and it writes no more than the footprint, to the effect `post`. -/
def Finishes (i : Instr) (s : State) (c : Conds) (w : Footprint) (post : State → Prop) : Prop :=
  if fpTraps s.fcsr c then ∃ f, FcsrTrapped s.fcsr f c ∧ RaisesFp i s f
  else Completes i s { w with fcsr := true } fun t => FcsrRaised s.fcsr t.fcsr c ∧ post t

/-- The instruction finishes with the result `r` in FPR `fd`, format `dst`. Of the FPRs `regs` it
reads, in format `src`, each that is not also the destination is marked with that format
(44_fpu_model.md R432). -/
def FinishesInto (i : Instr) (s : State) (claimed : Bool) (src : Fmt) (regs : List RegNum) (fd : RegNum)
    (dst : Fmt) (r : Word × Conds) : Prop :=
  Finishes i s (if claimed then condE else r.2)
    { fgrs := s.fprRegs fd, tags := (fd :: regs).map s.fprIndex } fun t =>
      t.FprResult fd dst r.1 ∧
        (s.cfg.fprTags = .strict →
          ∀ n ∈ regs, s.fprIndex n ≠ s.fprIndex fd → t.tag n = .is src)

/-- An operation of one FPU operand: whatever pattern `a` the operand holds, the instruction finishes
with the result and conditions `f a` (46_fpu_arith.md, common steps). -/
def UnaryFp (i : Instr) (s : State) (op : FpOp) (src dst : Fmt) (f : Word → Word × Conds)
    (fd fs : RegNum) : Prop :=
  s.cfg.cu1 = true → ∀ a, s.FprHolds fs src a →
    FinishesInto i s (s.claimed op src a 0 0) src [fs] fd dst (f a)

/-- An operation of two FPU operands. -/
def BinaryFp (i : Instr) (s : State) (op : FpOp) (fmt : Fmt) (f : Word → Word → Word × Conds)
    (fd fs ft : RegNum) : Prop :=
  s.cfg.cu1 = true → ∀ a b, s.FprHolds fs fmt a → s.FprHolds ft fmt b →
    FinishesInto i s (s.claimed op fmt a b 0) fmt [fs, ft] fd fmt (f a b)

/-- A multiply-accumulate operation. -/
def TernaryFp (i : Instr) (s : State) (op : FpOp) (fmt : Fmt) (f : Word → Word → Word → Word × Conds)
    (fd fr fs ft : RegNum) : Prop :=
  s.cfg.cu1 = true → ∀ d a b, s.FprHolds fr fmt d → s.FprHolds fs fmt a → s.FprHolds ft fmt b →
    FinishesInto i s (s.claimed op fmt d a b) fmt [fr, fs, ft] fd fmt (f d a b)

/-- A compare: it finishes, and on no trap `FCC[cc]` is the condition, the other condition codes are as
they were, the cause and flags record the conditions raised, and FS, the enables and RM are as they
were (46_fpu_arith.md R514). -/
def ComparesFp (i : Instr) (s : State) (cond : BitVec 4) (fmt : Fmt) (cc : BitVec 3) (fs ft : RegNum) :
    Prop :=
  s.cfg.cu1 = true → ∀ a b, s.FprHolds fs fmt a → s.FprHolds ft fmt b →
    let r := fpCompare cond fmt a b
    let c := if s.claimed (.compare cond) fmt a b 0 then condE else r.2
    if fpTraps s.fcsr c then ∃ f, FcsrTrapped s.fcsr f c ∧ RaisesFp i s f
    else
      Completes i s { tags := [fs, ft].map s.fprIndex, fcsr := true } fun t =>
        (∀ cc', t.fcc cc' = if cc' = cc then r.1 else s.fcc cc') ∧
          fcsrCause t.fcsr = c ∧ fcsrFlags t.fcsr = fcsrFlags s.fcsr ||| (c &&& ~~~condE) ∧
          t.fcsr &&& 0x017c0f83 = s.fcsr &&& 0x017c0f83 ∧
          (s.cfg.fprTags = .strict → t.tag fs = .is fmt ∧ t.tag ft = .is fmt)

/-- Every number of a CP1 general register or FPR. -/
def allRegs : List RegNum := (List.range 32).map (BitVec.ofNat 5)

/-! ### The values of patterns -/

/-- The rational number a finite number is. -/
def Num.toRat : Num → ℚ
  | .nan _ | .inf _ => 0
  | .fin neg mant exp => (if neg then -1 else 1) * mant * (2 : ℚ) ^ exp

/-- A number is finite. -/
def Num.isFinite : Num → Bool
  | .fin .. => true
  | _ => false

/-- A number is a NaN. -/
def Num.isNaN : Num → Bool
  | .nan _ => true
  | _ => false

/-! ### The invariant -/

/-- A cell carries no value in the bits that hold UNDEF. -/
def Reg.clean (c : Reg) : Prop := c.val &&& c.undef = 0

/-- What every step of the machine keeps, from any state. -/
structure State.Inv (s : State) : Prop where
  /-- Memory has its canonical form (10_state.md R57). -/
  mem : s.mem.wf = true
  /-- Every listed byte lies in the physical address space (20_memory.md R80). -/
  memRange : ∀ c ∈ s.mem, c.1 < 2 ^ s.cfg.psize
  /-- The stored addresses are rising. -/
  stored : rising s.stored = true
  /-- Every stored address lies in the physical address space. -/
  storedRange : ∀ a ∈ s.stored, a < 2 ^ s.cfg.psize
  /-- The addresses of undefined bytes are rising. -/
  undefMem : rising s.undefMem = true
  /-- An undefined byte is one the run has stored, and it carries no value. -/
  undefStored : ∀ a ∈ s.undefMem, a ∈ s.stored ∧ s.mem.read a = Memory.unlisted
  /-- The cell of `x[0]` is never written (10_state.md R31). -/
  x0 : s.gpr[0] = {}
  /-- The bits of the FCSR that no instruction writes are 0 (10_state.md R46). -/
  fcsr : s.fcsr &&& 0x007c0000 = 0
  /-- Outside a delay slot the next instruction follows the current one (10_state.md R34). -/
  slot : s.bd = false → s.npc = s.pc + 4
  /-- A trap has cleared LLbit and the HI/LO records (60_exceptions.md R620). -/
  trapped : s.trap.isSome = true → s.llBit = false ∧ s.hiRd = .none ∧ s.loRd = .none
  /-- A link is to a word or a doubleword of the physical address space
  (40_cpu_load_store.md R222, R223). -/
  link : s.llBit = true →
    (s.llAddr.width = 4 ∨ s.llAddr.width = 8) ∧ s.llAddr.pa.toNat < 2 ^ s.cfg.psize
  /-- Undefined bits carry no value. -/
  clean : (∀ r : Fin 32, s.gpr[r].clean) ∧ s.hi.clean ∧ s.lo.clean ∧ ∀ n : Fin 32, s.fgr[n].clean
  /-- In the 32-bit register model the high half of a CP1 general register does not exist
  (10_state.md R41). -/
  narrow : s.cfg.fgr64 = false →
    ∀ n : Fin 32, (s.fgr[n].val ||| s.fgr[n].undef) &&& highHalf = 0
  /-- In the 32-bit register model no odd FPR has a tag of its own (10_state.md R42, R43). -/
  oddTags : s.cfg.fgr64 = false → ∀ n : Fin 32, n.val % 2 = 1 → s.tags[n] = .unknown

end Machine

end Sys2Proof
end

