-- ==== Sys2Proof/Certificates/Slice0/Obligations.lean ====
section
/-! DEFINITION. The statements for the provers, one proposition each. Their terms (Completes, WritesX,
Raises, Frame and the others) are those of Sys2Proof/Safety.lean. -/

open Sys2Proof Sys2Proof.Machine

/-! ### Reset, the invariant, the step -/

/-- What reset leaves, for every choice of the parameters (70_reset_and_hazards.md R650): the program
counters, no delay slot, no link, no HI/LO record, no trap, no undefined byte of memory, unknown formats,
the unwritable FCSR bits 0, and `x[0]` = 0; and the parameters after reset make coprocessor 1, and no other, usable.
The values of the registers R650 leaves unspecified are the model's own (log 9); nothing is said of them. -/
def Obligations.ResetState : Prop :=
  (∀ cfg : Config, ∃ s, s = State.resetWith cfg ∧ s.cfg = cfg ∧ s.pc = cfg.resetPC ∧
    s.npc = cfg.resetPC + 4 ∧ s.bd = false ∧ s.llBit = false ∧ s.hiRd = .none ∧ s.loRd = .none ∧
    s.trap = none ∧ s.undefMem = [] ∧ (∀ n : RegNum, s.tag n = .unknown) ∧ s.fcsr &&& 0x007c0000 = 0 ∧
    ∀ site, s.x site 0 = 0) ∧
  ∃ cfg : Config, State.reset = State.resetWith cfg ∧ cfg.Valid ∧
    cfg.cu0 = false ∧ cfg.cu1 = true ∧ cfg.cu2 = false ∧ cfg.cu3 = false

/-- The invariant holds right after reset, whatever the parameters. -/
def Obligations.ResetInvariant : Prop :=
  State.reset.Inv ∧ ∀ cfg : Config, (State.resetWith cfg).Inv

/-- Every step from a state with the invariant leads to a state with the invariant, and no step
changes a parameter (00_scope.md R8). The invariant says that memory keeps its canonical form within
the physical address space, `x[0]` is never written, the unwritable FCSR bits stay 0, outside a delay
slot npc is pc + 4, and a trap has cleared LLbit and the HI/LO records; the clauses on undefined bits and
bytes and on the 32-bit register model are about the model's own form of the state (logs 11, 12, 26, 36).
A step of a trapped machine that a client's Handler continues is one of them (log 18). -/
def Obligations.StepKeepsInvariant : Prop :=
  ∀ s t : State, s.Inv → step s = .next t → t.Inv ∧ t.cfg = s.cfg

/-- When the machine runs, no interrupt is delivered, pc is aligned and translates, no stored byte is
fetched and the four bytes decode to `i`, the step is the execution of `i`; the interrupt oracle's
answer has been taken (70_reset_and_hazards.md R681, log 19). The program counters move inside `exec`. -/
def Obligations.StepRunsDecodedInstruction : Prop :=
  ∀ (s : State) (as : List Nat) (i : Instr), s.trap = none → s.interrupted = false →
    s.pc.toNat % 4 = 0 → s.locate s.pc s.pc 4 .fetch = .ok as → (∀ a ∈ as, a ∉ s.stored) →
    decodeBytes s.bigEndianCpu (as.map s.readByte) = .ok i →
    step s = exec i { s with intPending := s.intPending.tail }

/-- What a step does instead of executing an instruction, in the order of 60_exceptions.md R623: a
trapped machine without a Handler is terminal (R620, R622), and a client's Handler leaves it so or
continues it in some running state that has the invariant, with the parameters and the interrupt answers
as they were (the model's reading of the parameter, log 18); a delivered interrupt is taken (R626); a misaligned pc
raises Address Error (20_memory.md R98); then what translation or the memory system raises; and bytes
the run has stored to are not fetched (70_reset_and_hazards.md R675). -/
def Obligations.StepStopsBeforeExecution : Prop :=
  (∀ s : State, s.trap ≠ none → s.cfg.handler = .default → step s = .fault .trapped) ∧
  (∀ s : State, s.trap ≠ none → s.cfg.handler = .part → step s = .fault .trapped ∨
    ∃ t, step s = .next t ∧ t.trap = none ∧ t.Inv ∧ t.cfg = s.cfg ∧ t.intPending = s.intPending) ∧
  (∀ s : State, s.trap = none → s.interrupted = true →
    ∃ t, step s = .next t ∧ Trapped s.popInterrupt t .interrupt ∧ t.fcsr = s.fcsr) ∧
  (∀ s : State, s.trap = none → s.interrupted = false → s.pc.toNat % 4 ≠ 0 →
    ∃ t, step s = .next t ∧ Trapped s.popInterrupt t (.addressError s.pc .fetch) ∧ t.fcsr = s.fcsr) ∧
  (∀ (s : State) (e : Exc), s.trap = none → s.interrupted = false → s.pc.toNat % 4 = 0 →
    s.locate s.pc s.pc 4 .fetch = .error e →
    ∃ t, step s = .next t ∧ Trapped s.popInterrupt t e ∧ t.fcsr = s.fcsr) ∧
  ∀ (s : State) (as : List Nat), s.trap = none → s.interrupted = false → s.pc.toNat % 4 = 0 →
    s.locate s.pc s.pc 4 .fetch = .ok as → (∃ a ∈ as, a ∈ s.stored) → step s = .refused .storedCode

/-- A fetched word that is no instruction raises Reserved Instruction; in a coprocessor 1 class
Coprocessor Unusable comes first when CU[1] is 0, and a reserved encoding of those classes raises what
the parameter ReservedFPU says, Unimplemented Operation setting only cause bit E
(30_encoding.md R150, R151, 43_cpu_misc.md R402, log 23). -/
def Obligations.ReservedWordsRaise : Prop :=
  ∀ (s : State) (as : List Nat) (e : DecodeError), s.trap = none → s.interrupted = false →
    s.pc.toNat % 4 = 0 → s.locate s.pc s.pc 4 .fetch = .ok as → (∀ a ∈ as, a ∉ s.stored) →
    decodeBytes s.bigEndianCpu (as.map s.readByte) = .error e →
    ∃ t, step s = .next t ∧
      if e ∈ [.reserved, .zeroField, .length] then
        Trapped s.popInterrupt t .reservedInstruction ∧ t.fcsr = s.fcsr
      else if s.cfg.cu1 = false then
        Trapped s.popInterrupt t (.coprocessorUnusable 1) ∧ t.fcsr = s.fcsr
      else if e = .reservedFpu ∧ s.cfg.reservedFpu = .unimplementedOperation then
        Trapped s.popInterrupt t .floatingPoint ∧ FcsrTrapped s.fcsr t.fcsr condE
      else Trapped s.popInterrupt t .reservedInstruction ∧ t.fcsr = s.fcsr

/-! ### Encoding -/

/-- Decoding the encoding of any instruction, with every operand at every value of its field, gives
the instruction back, as a word and as its four bytes in either byte order (30_encoding.md R130). -/
def Obligations.DecodeEncode : Prop :=
  ∀ i : Instr, decode (encode i) = .ok i ∧
    ∀ big : Bool, decodeBytes big (encodeBytes big i) = .ok i ∧ (encodeBytes big i).length = 4

/-- Encoding what a word decodes to gives the word back: no bit of an accepted word is ignored, and no
two words are the same instruction. -/
def Obligations.EncodeDecode : Prop :=
  ∀ (w : BitVec 32) (i : Instr), decode w = .ok i → encode i = w

/-- Words the spec writes out decode to the instructions it says. -/
def Obligations.SpecWordsDecode : Prop :=
  decode 0x00851020#32 = .ok (.add 2 4 5) ∧ decode 0x24828000#32 = .ok (.addiu 2 4 0x8000) ∧
  decode 0x00850018#32 = .ok (.mult 4 5) ∧ decode 0x0085001a#32 = .ok (.div 4 5) ∧
  decode 0x00000000#32 = .ok (.sll 0 0 0) ∧ decode 0x42000018#32 = .ok (.cop0 0x2000018)

/-! ### Exceptions and what may be written, for every instruction -/

/-- Every exception an instruction raises is precise (60_exceptions.md R620): the trap record names the
victim, its delay slot bit and the restart address, the branch when the victim is in a delay slot;
LLbit and the HI/LO records are cleared; and no register, format tag (log 25), byte of memory or program
counter has changed. The FCSR changes only with a Floating-Point exception. -/
def Obligations.ExceptionsArePrecise : Prop :=
  ∀ (i : Instr) (s t : State) (r : TrapRecord), s.trap = none → exec i s = .next t →
    t.trap = some r → Trapped s t r.kind ∧ (r.kind ≠ .floatingPoint → t.fcsr = s.fcsr)

/-- An instruction that raises nothing moves the program counters as 42_cpu_jump_branch.md R340 says:
in sequence unless it is a jump or branch, into a delay slot or over one if it is. -/
def Obligations.ProgramCountersMove : Prop :=
  ∀ (i : Instr) (s t : State), s.trap = none → exec i s = .next t → t.trap = none →
    if i.isJump then
      (t.bd = true ∧ t.pc = s.npc) ∨ (t.bd = false ∧ t.pc = s.npc + 4 ∧ t.npc = s.npc + 8)
    else Advanced s t

/-- Which instructions write what. Memory, and the record of stored bytes: only the stores. HI and LO:
only the multiplies, divides, MTHI and MTLO (10_state.md R35). LLbit is set, and LLaddr written, only by
LL and LLD (R39). FCSR: only the operations that finish through FPResult, CTC1, and a formatted move
that raises Unimplemented Operation (log 27). CP1 general registers and format tags: only instructions of
coprocessor 1. -/
def Obligations.WritersOfEachState : Prop :=
  ∀ (i : Instr) (s t : State), exec i s = .next t →
    (i.isStore = false → t.mem = s.mem ∧ t.stored = s.stored ∧ t.undefMem = s.undefMem) ∧
    (i.writesHi = false → t.hi = s.hi) ∧ (i.writesLo = false → t.lo = s.lo) ∧
    (i.isLinkedLoad = false → t.llAddr = s.llAddr ∧ (s.llBit = false → t.llBit = false)) ∧
    (i.finishesFp = false → (∀ rt fs, i ≠ .ctc1 rt fs) → (i.isFpMove = true → t.trap = none) →
      t.fcsr = s.fcsr) ∧
    (i.usesCop1 = false → t.fgr = s.fgr ∧ t.tags = s.tags) ∧
    (i.finishesFp = false → i.isFpLoad = false → i.isFpMove = false → t.fgr = s.fgr)

/-- The HI/LO read hazard (41_cpu_alu.md R300): every completed instruction ages the records and MFHI
(MFLO) starts its own anew; a multiply or divide is refused while either record is there, MTHI while
HI's is and MTLO while LO's is. -/
def Obligations.HiLoReadHazard : Prop :=
  (∀ (i : Instr) (s t : State), s.trap = none → exec i s = .next t → t.trap = none →
    t.hiRd = (if (∃ rd, i = .mfhi rd) then .age0 else s.hiRd.older) ∧
      t.loRd = (if (∃ rd, i = .mflo rd) then .age0 else s.loRd.older)) ∧
  (∀ (i : Instr) (s : State), i.isMulDiv = true → s.hiRd ≠ .none ∨ s.loRd ≠ .none →
    exec i s = .refused .hiLoHazard) ∧
  (∀ (s : State) (rs : RegNum), s.hiRd ≠ .none → exec (.mthi rs) s = .refused .hiLoHazard) ∧
  ∀ (s : State) (rs : RegNum), s.loRd ≠ .none → exec (.mtlo rs) s = .refused .hiLoHazard

/-- Every instruction of coprocessor 1's classes, and MOVF and MOVT, raises Coprocessor Unusable for
unit 1 when CU[1] is 0, before anything else is looked at (60_exceptions.md R606,
43_cpu_misc.md R402). -/
def Obligations.Coprocessor1Unusable : Prop :=
  ∀ (i : Instr) (s : State), i.usesCop1 = true → s.cfg.cu1 = false →
    Raises i s (.coprocessorUnusable 1)

/-- The classes of coprocessors 0 and 2: Coprocessor Unusable when the unit is not usable. With the unit
made usable the spec gives COP0 and COP2 words, and LWC2, LDC2, SWC2 and SDC2 once their access is aligned
and its bytes are located, no effect, and they are refused (43_cpu_misc.md R401; the model's choice,
log 28); what the access itself raises is still raised. -/
def Obligations.Coprocessors0And2 : Prop :=
  ∀ s : State,
    (∀ f, s.cfg.cu0 = false → Raises (.cop0 f) s (.coprocessorUnusable 0)) ∧
    (∀ f, s.cfg.cu0 = true → exec (.cop0 f) s = .refused .coprocessor0Undescribed) ∧
    (∀ i : Instr, i.usesCop2 = true → s.cfg.cu2 = false → Raises i s (.coprocessorUnusable 2)) ∧
    (∀ f, s.cfg.cu2 = true → exec (.cop2 f) s = .refused .coprocessor2Undescribed) ∧
    ∀ (rt base : RegNum) (offset : BitVec 16) (va : Word), s.cfg.cu2 = true →
      va = s.x .rs base + offset.signExtend 64 →
      (offset.toNat % 4 ≠ 0 → exec (.lwc2 rt offset base) s = .refused .offsetField ∧
        exec (.swc2 rt offset base) s = .refused .offsetField) ∧
      (offset.toNat % 8 ≠ 0 → exec (.ldc2 rt offset base) s = .refused .offsetField ∧
        exec (.sdc2 rt offset base) s = .refused .offsetField) ∧
      (offset.toNat % 4 = 0 →
        AccessRaises (.lwc2 rt offset base) s va 4 .load ∧
        AccessRaises (.swc2 rt offset base) s va 4 .store ∧
        ∀ as, va.toNat % 4 = 0 →
          (s.locate va va 4 .load = .ok as →
            exec (.lwc2 rt offset base) s = .refused .coprocessor2Undescribed) ∧
          (s.locate va va 4 .store = .ok as →
            exec (.swc2 rt offset base) s = .refused .coprocessor2Undescribed)) ∧
      (offset.toNat % 8 = 0 →
        AccessRaises (.ldc2 rt offset base) s va 8 .load ∧
        AccessRaises (.sdc2 rt offset base) s va 8 .store ∧
        ∀ as, va.toNat % 8 = 0 →
          (s.locate va va 8 .load = .ok as →
            exec (.ldc2 rt offset base) s = .refused .coprocessor2Undescribed) ∧
          (s.locate va va 8 .store = .ok as →
            exec (.sdc2 rt offset base) s = .refused .coprocessor2Undescribed))

/-! ### Computation in the general registers -/

/-- The logical instructions (41_cpu_alu.md R265 to R267, R281 to R284) and LUI (R268): the immediate is
zero-extended, and LUI puts it, sign-extended, 16 bits up. -/
def Obligations.LogicalInstructions : Prop :=
  ∀ (s : State) (rt rs rd : RegNum) (imm : BitVec 16),
    WritesX (.andi rt rs imm) s rt (fun v => v.toNat = (s.x .rs rs).toNat &&& imm.toNat) ∧
    WritesX (.ori rt rs imm) s rt (fun v => v.toNat = (s.x .rs rs).toNat ||| imm.toNat) ∧
    WritesX (.xori rt rs imm) s rt (fun v => v.toNat = (s.x .rs rs).toNat ^^^ imm.toNat) ∧
    WritesX (.lui rt imm) s rt (fun v => v.toInt = imm.toInt * 2 ^ 16) ∧
    WritesX (.and rd rs rt) s rd (fun v => v = s.x .rs rs &&& s.x .rt rt) ∧
    WritesX (.or rd rs rt) s rd (fun v => v = s.x .rs rs ||| s.x .rt rt) ∧
    WritesX (.xor rd rs rt) s rd (fun v => v = s.x .rs rs ^^^ s.x .rt rt) ∧
    WritesX (.nor rd rs rt) s rd
      (fun v => ∀ k < 64, v.getLsbD k = !((s.x .rs rs).getLsbD k || (s.x .rt rt).getLsbD k))

/-- The additions and subtractions that never trap (41_cpu_alu.md R262, R270, R272, R274, R276, R278):
modulo 2^32 and sign-extended, or modulo 2^64. A 32-bit form with an operand that is no word value
leaves `UNDEF_64` (R260). -/
def Obligations.WrappingAddSubtract : Prop :=
  ∀ (s : State) (rt rs rd : RegNum) (imm : BitVec 16),
    (WordValue (s.x .rs rs) →
      WritesX (.addiu rt rs imm) s rt
        (fun v => v.toInt = ((s.x .rs rs).toInt + imm.toInt).bmod (2 ^ 32))) ∧
    (¬WordValue (s.x .rs rs) → UndefinesX (.addiu rt rs imm) s rt) ∧
    (WordValue (s.x .rs rs) ∧ WordValue (s.x .rt rt) →
      WritesX (.addu rd rs rt) s rd
        (fun v => v.toInt = ((s.x .rs rs).toInt + (s.x .rt rt).toInt).bmod (2 ^ 32)) ∧
      WritesX (.subu rd rs rt) s rd
        (fun v => v.toInt = ((s.x .rs rs).toInt - (s.x .rt rt).toInt).bmod (2 ^ 32))) ∧
    (¬(WordValue (s.x .rs rs) ∧ WordValue (s.x .rt rt)) →
      UndefinesX (.addu rd rs rt) s rd ∧ UndefinesX (.subu rd rs rt) s rd) ∧
    WritesX (.daddiu rt rs imm) s rt
      (fun v => v.toInt = ((s.x .rs rs).toInt + imm.toInt).bmod (2 ^ 64)) ∧
    WritesX (.daddu rd rs rt) s rd
      (fun v => v.toInt = ((s.x .rs rs).toInt + (s.x .rt rt).toInt).bmod (2 ^ 64)) ∧
    WritesX (.dsubu rd rs rt) s rd
      (fun v => v.toInt = ((s.x .rs rs).toInt - (s.x .rt rt).toInt).bmod (2 ^ 64))

/-- The additions and subtractions that trap (41_cpu_alu.md R261, R269, R271, R273, R275, R277, R315):
the exact result when it fits the width, else Integer Overflow with the destination not modified. A
32-bit form with an operand that is no word value does one or the other, with `UNDEF_64` for a result
(R260, 92_eei_decisions.md D15); that one opaque draw decides which is the model's choice (log 13). -/
def Obligations.TrappingAddSubtract : Prop :=
  ∀ (s : State) (rt rs rd : RegNum) (imm : BitVec 16),
    let word (i : Instr) (r : RegNum) (words : Prop) (x : Int) :=
      (words → -2 ^ 31 ≤ x ∧ x < 2 ^ 31 → WritesX i s r (fun v => v.toInt = x)) ∧
      (words → ¬(-2 ^ 31 ≤ x ∧ x < 2 ^ 31) → Raises i s .integerOverflow) ∧
      (¬words → UndefinesX i s r ∨ Raises i s .integerOverflow)
    let double (i : Instr) (r : RegNum) (x : Int) :=
      (-2 ^ 63 ≤ x ∧ x < 2 ^ 63 → WritesX i s r (fun v => v.toInt = x)) ∧
      (¬(-2 ^ 63 ≤ x ∧ x < 2 ^ 63) → Raises i s .integerOverflow)
    word (.addi rt rs imm) rt (WordValue (s.x .rs rs)) ((s.x .rs rs).toInt + imm.toInt) ∧
    word (.add rd rs rt) rd (WordValue (s.x .rs rs) ∧ WordValue (s.x .rt rt))
      ((s.x .rs rs).toInt + (s.x .rt rt).toInt) ∧
    word (.sub rd rs rt) rd (WordValue (s.x .rs rs) ∧ WordValue (s.x .rt rt))
      ((s.x .rs rs).toInt - (s.x .rt rt).toInt) ∧
    double (.daddi rt rs imm) rt ((s.x .rs rs).toInt + imm.toInt) ∧
    double (.dadd rd rs rt) rd ((s.x .rs rs).toInt + (s.x .rt rt).toInt) ∧
    double (.dsub rd rs rt) rd ((s.x .rs rs).toInt - (s.x .rt rt).toInt)

/-- The comparisons (41_cpu_alu.md R263, R264, R279, R280): 1 or 0; the immediate is sign-extended also
for the unsigned form. -/
def Obligations.SetOnLessThan : Prop :=
  ∀ (s : State) (rt rs rd : RegNum) (imm : BitVec 16),
    WritesX (.slti rt rs imm) s rt
      (fun v => v = if (s.x .rs rs).toInt < imm.toInt then 1 else 0) ∧
    WritesX (.sltiu rt rs imm) s rt
      (fun v => v = if (s.x .rs rs).toNat < (BitVec.ofInt 64 imm.toInt).toNat then 1 else 0) ∧
    WritesX (.slt rd rs rt) s rd
      (fun v => v = if (s.x .rs rs).toInt < (s.x .rt rt).toInt then 1 else 0) ∧
    WritesX (.sltu rd rs rt) s rd
      (fun v => v = if (s.x .rs rs).toNat < (s.x .rt rt).toNat then 1 else 0)

/-- The shifts by a fixed amount (41_cpu_alu.md R285 to R287, R291 to R296). SLL works on the low word of
any value; SRL and SRA with an operand that is no word value leave `UNDEF_64` (R260). -/
def Obligations.FixedShifts : Prop :=
  ∀ (s : State) (rd rt : RegNum) (sa : BitVec 5),
    WritesX (.sll rd rt sa) s rd
      (fun v => v.toInt = ((s.x .rt rt).toInt * 2 ^ sa.toNat).bmod (2 ^ 32)) ∧
    (WordValue (s.x .rt rt) →
      WritesX (.srl rd rt sa) s rd
        (fun v => v.toInt = (((s.x .rt rt).toNat % 2 ^ 32 / 2 ^ sa.toNat : Nat) : Int).bmod (2 ^ 32)) ∧
      WritesX (.sra rd rt sa) s rd (fun v => v.toInt = (s.x .rt rt).toInt / 2 ^ sa.toNat)) ∧
    (¬WordValue (s.x .rt rt) →
      UndefinesX (.srl rd rt sa) s rd ∧ UndefinesX (.sra rd rt sa) s rd) ∧
    WritesX (.dsll rd rt sa) s rd
      (fun v => v.toNat = (s.x .rt rt).toNat * 2 ^ sa.toNat % 2 ^ 64) ∧
    WritesX (.dsrl rd rt sa) s rd (fun v => v.toNat = (s.x .rt rt).toNat / 2 ^ sa.toNat) ∧
    WritesX (.dsra rd rt sa) s rd (fun v => v.toInt = (s.x .rt rt).toInt / 2 ^ sa.toNat) ∧
    WritesX (.dsll32 rd rt sa) s rd
      (fun v => v.toNat = (s.x .rt rt).toNat * 2 ^ (32 + sa.toNat) % 2 ^ 64) ∧
    WritesX (.dsrl32 rd rt sa) s rd (fun v => v.toNat = (s.x .rt rt).toNat / 2 ^ (32 + sa.toNat)) ∧
    WritesX (.dsra32 rd rt sa) s rd (fun v => v.toInt = (s.x .rt rt).toInt / 2 ^ (32 + sa.toNat))

/-- The shifts by a register (41_cpu_alu.md R288 to R290, R297 to R299): the amount is the low 5 bits of
rs for the word forms and the low 6 bits for the doubleword forms. -/
def Obligations.VariableShifts : Prop :=
  ∀ (s : State) (rd rt rs : RegNum),
    WritesX (.sllv rd rt rs) s rd
      (fun v => v.toInt = ((s.x .rt rt).toInt * 2 ^ ((s.x .rs rs).toNat % 32)).bmod (2 ^ 32)) ∧
    (WordValue (s.x .rt rt) →
      WritesX (.srlv rd rt rs) s rd
        (fun v => v.toInt =
          (((s.x .rt rt).toNat % 2 ^ 32 / 2 ^ ((s.x .rs rs).toNat % 32) : Nat) : Int).bmod (2 ^ 32)) ∧
      WritesX (.srav rd rt rs) s rd
        (fun v => v.toInt = (s.x .rt rt).toInt / 2 ^ ((s.x .rs rs).toNat % 32))) ∧
    (¬WordValue (s.x .rt rt) →
      UndefinesX (.srlv rd rt rs) s rd ∧ UndefinesX (.srav rd rt rs) s rd) ∧
    WritesX (.dsllv rd rt rs) s rd
      (fun v => v.toNat = (s.x .rt rt).toNat * 2 ^ ((s.x .rs rs).toNat % 64) % 2 ^ 64) ∧
    WritesX (.dsrlv rd rt rs) s rd
      (fun v => v.toNat = (s.x .rt rt).toNat / 2 ^ ((s.x .rs rs).toNat % 64)) ∧
    WritesX (.dsrav rd rt rs) s rd
      (fun v => v.toInt = (s.x .rt rt).toInt / 2 ^ ((s.x .rs rs).toNat % 64))

/-- The multiplies (41_cpu_alu.md R301, R302, R305, R306), outside the HI/LO read hazard: HI and LO
together are the exact product, each half of a word product sign-extended. A word form with an operand
that is no word value leaves `UNDEF_64` in both (R260). -/
def Obligations.Multiply : Prop :=
  ∀ (s : State) (rs rt : RegNum), s.hiRd = .none → s.loRd = .none →
    (WordValue (s.x .rs rs) ∧ WordValue (s.x .rt rt) →
      WritesHiLo (.mult rs rt) s (fun h l => WordValue h ∧ WordValue l ∧
        h.toInt * 2 ^ 32 + ((l.toNat % 2 ^ 32 : Nat) : Int) = (s.x .rs rs).toInt * (s.x .rt rt).toInt) ∧
      WritesHiLo (.multu rs rt) s (fun h l => WordValue h ∧ WordValue l ∧
        h.toNat % 2 ^ 32 * 2 ^ 32 + l.toNat % 2 ^ 32 =
          (s.x .rs rs).toNat % 2 ^ 32 * ((s.x .rt rt).toNat % 2 ^ 32))) ∧
    (¬(WordValue (s.x .rs rs) ∧ WordValue (s.x .rt rt)) →
      UndefinesHiLo (.mult rs rt) s ∧ UndefinesHiLo (.multu rs rt) s) ∧
    WritesHiLo (.dmult rs rt) s (fun h l =>
      h.toInt * 2 ^ 64 + (l.toNat : Int) = (s.x .rs rs).toInt * (s.x .rt rt).toInt) ∧
    WritesHiLo (.dmultu rs rt) s (fun h l =>
      h.toNat * 2 ^ 64 + l.toNat = (s.x .rs rs).toNat * (s.x .rt rt).toNat)

/-- The divides (41_cpu_alu.md R303, R304, R307, R308, R313), outside the HI/LO read hazard: LO is the
quotient and HI the remainder, which is smaller than the divisor and, if not zero, has the sign of the
dividend. The divisions without a result leave `UNDEF_64` in both and the machine goes on: a zero
divisor, the most negative dividend by -1, and for a word form an operand that is no word value. -/
def Obligations.Divide : Prop :=
  ∀ (s : State) (rs rt : RegNum), s.hiRd = .none → s.loRd = .none →
    (WordValue (s.x .rs rs) → WordValue (s.x .rt rt) → s.x .rt rt ≠ 0 →
      ¬((s.x .rs rs).toInt = -2 ^ 31 ∧ (s.x .rt rt).toInt = -1) →
      WritesHiLo (.div rs rt) s (fun h l =>
        (s.x .rs rs).toInt = l.toInt * (s.x .rt rt).toInt + h.toInt ∧
        h.toInt.natAbs < (s.x .rt rt).toInt.natAbs ∧
        (h ≠ 0 → (h.toInt < 0 ↔ (s.x .rs rs).toInt < 0)))) ∧
    (WordValue (s.x .rs rs) → WordValue (s.x .rt rt) → s.x .rt rt ≠ 0 →
      WritesHiLo (.divu rs rt) s (fun h l => WordValue h ∧ WordValue l ∧
        (s.x .rs rs).toNat % 2 ^ 32 =
          l.toNat % 2 ^ 32 * ((s.x .rt rt).toNat % 2 ^ 32) + h.toNat % 2 ^ 32 ∧
        h.toNat % 2 ^ 32 < (s.x .rt rt).toNat % 2 ^ 32)) ∧
    (s.x .rt rt ≠ 0 → ¬((s.x .rs rs).toInt = -2 ^ 63 ∧ (s.x .rt rt).toInt = -1) →
      WritesHiLo (.ddiv rs rt) s (fun h l =>
        (s.x .rs rs).toInt = l.toInt * (s.x .rt rt).toInt + h.toInt ∧
        h.toInt.natAbs < (s.x .rt rt).toInt.natAbs ∧
        (h ≠ 0 → (h.toInt < 0 ↔ (s.x .rs rs).toInt < 0)))) ∧
    (s.x .rt rt ≠ 0 →
      WritesHiLo (.ddivu rs rt) s (fun h l =>
        (s.x .rs rs).toNat = l.toNat * (s.x .rt rt).toNat + h.toNat ∧
        h.toNat < (s.x .rt rt).toNat)) ∧
    (s.x .rt rt = 0 → UndefinesHiLo (.div rs rt) s ∧ UndefinesHiLo (.divu rs rt) s ∧
      UndefinesHiLo (.ddiv rs rt) s ∧ UndefinesHiLo (.ddivu rs rt) s) ∧
    ((s.x .rs rs).toInt = -2 ^ 31 → (s.x .rt rt).toInt = -1 → UndefinesHiLo (.div rs rt) s) ∧
    ((s.x .rs rs).toInt = -2 ^ 63 → (s.x .rt rt).toInt = -1 → UndefinesHiLo (.ddiv rs rt) s) ∧
    (¬(WordValue (s.x .rs rs) ∧ WordValue (s.x .rt rt)) →
      UndefinesHiLo (.div rs rt) s ∧ UndefinesHiLo (.divu rs rt) s)

/-- The moves from and to HI and LO (41_cpu_alu.md R309 to R312). MFHI and MFLO start the read record of
their register; MTHI and MTLO are stated outside it. That MTHI leaves LO alone and MTLO leaves HI alone is
the model's choice where a multiply or divide came before (log 39). -/
def Obligations.HiLoMoves : Prop :=
  ∀ (s : State) (r : RegNum),
    (∃ t, exec (.mfhi r) s = .next t ∧ Advanced s t ∧ Frame s t { gprs := [r] } ∧
      t.hiRd = .age0 ∧ t.loRd = s.loRd.older ∧ t.Holds r s.readHi) ∧
    (∃ t, exec (.mflo r) s = .next t ∧ Advanced s t ∧ Frame s t { gprs := [r] } ∧
      t.loRd = .age0 ∧ t.hiRd = s.hiRd.older ∧ t.Holds r s.readLo) ∧
    (s.hiRd = .none →
      Completes (.mthi r) s { hi := true } fun t => t.hi = Reg.of (s.x .rs r)) ∧
    (s.loRd = .none →
      Completes (.mtlo r) s { lo := true } fun t => t.lo = Reg.of (s.x .rs r))

/-! ### Memory -/

/-- Byte order (20_memory.md R84, 40_cpu_load_store.md R213): with big-endian order the first byte of an
object is the most significant of its value, with little-endian order the least significant; taking a
value apart and putting it together again gives its low bytes. -/
def Obligations.ByteOrder : Prop :=
  (∀ (big : Bool) (bs : List Byte) (k : Nat) (h : k < bs.length), bs.length ≤ 8 →
    (valueOfBytes big bs).toNat / 2 ^ (8 * if big then bs.length - 1 - k else k) % 2 ^ 8 =
      (bs[k]'h).toNat) ∧
  (∀ (big : Bool) (bs : List Byte), bs.length ≤ 8 →
    (valueOfBytes big bs).toNat < 2 ^ (8 * bs.length)) ∧
  (∀ (big : Bool) (v : Word) (n : Nat), (bytesOfValue big v n).length = n) ∧
  ∀ (big : Bool) (v : Word) (n : Nat), n ≤ 8 →
    (valueOfBytes big (bytesOfValue big v n)).toNat = v.toNat % 2 ^ (8 * n)

/-- Where the bytes of an access lie (20_memory.md R80, R85, R86, R96, R104, 60_exceptions.md R612): with
no region, at the address itself, or at its xor with 7 under ReverseEndian; a region of the table that
covers the access moves it or raises its exception; a byte outside the memory system is a Bus Error. The region
table and the list of missing bytes are the model's form of the parameters (logs 14, 15). -/
def Obligations.AccessLocation : Prop :=
  ∀ (s : State) (va first : Word) (n : Nat) (k : Access),
    (s.cfg.translate = [] → s.cfg.psize = 64 → s.cfg.unbacked = [] →
      s.locate va first n k = .ok ((List.range n).map fun i =>
        ((first + BitVec.ofNat 64 i) ^^^ (if s.cfg.reverseEndian then 7 else 0)).toNat)) ∧
    (∀ (r : Region) (rs : List Region) (e : XlateFault), s.cfg.translate = r :: rs → r.first ≤ va →
      va ≤ r.last → k ∈ r.kinds → r.answer = .exception e →
      s.locate va first n k = .error (xlateExc e va k)) ∧
    (∀ (r : Region) (rs : List Region) (pa : Word) (cca : Cca), s.cfg.translate = r :: rs →
      r.first ≤ va → va ≤ r.last → k ∈ r.kinds → r.answer = .ok pa cca → s.cfg.psize = 64 →
      s.cfg.unbacked = [] → s.cfg.reverseEndian = false →
      s.locate va first n k =
        .ok ((List.range n).map fun i => (pa + (first - r.first) + BitVec.ofNat 64 i).toNat)) ∧
    (∀ (lo hi i : Nat), s.cfg.translate = [] → s.cfg.psize = 64 → s.cfg.reverseEndian = false →
      (lo, hi) ∈ s.cfg.unbacked → i < n → lo ≤ (first + BitVec.ofNat 64 i).toNat →
      (first + BitVec.ofNat 64 i).toNat ≤ hi → s.locate va first n k = .error (.busError va k))

/-- The aligned loads (40_cpu_load_store.md R202 to R208), on an access that succeeds: sign-extended or
zero-extended. The bytes are those of memory; one that holds UNDEF reads as a free value (log 12). -/
def Obligations.Loads : Prop :=
  ∀ (s : State) (rt base : RegNum) (offset : BitVec 16) (va : Word),
    va = s.x .rs base + offset.signExtend 64 →
    (∀ a, a ∉ s.undefMem → s.readByte a = s.mem.read a) ∧
    LoadsX (.lb rt offset base) s rt va 1 (fun m v => v.toInt = (m.toNat : Int).bmod (2 ^ 8)) ∧
    LoadsX (.lbu rt offset base) s rt va 1 (fun m v => v = m) ∧
    LoadsX (.lh rt offset base) s rt va 2 (fun m v => v.toInt = (m.toNat : Int).bmod (2 ^ 16)) ∧
    LoadsX (.lhu rt offset base) s rt va 2 (fun m v => v = m) ∧
    (offset.toNat % 4 = 0 →
      LoadsX (.lw rt offset base) s rt va 4 (fun m v => v.toInt = (m.toNat : Int).bmod (2 ^ 32)) ∧
      LoadsX (.lwu rt offset base) s rt va 4 (fun m v => v = m)) ∧
    (offset.toNat % 8 = 0 → LoadsX (.ld rt offset base) s rt va 8 (fun m v => v = m))

/-- The aligned stores (40_cpu_load_store.md R209 to R212), on an access that succeeds: exactly the bytes
located for the access change, and they hold the low part of the register. -/
def Obligations.StoresWrite : Prop :=
  ∀ (s : State) (rt base : RegNum) (offset : BitVec 16) (va : Word), s.Inv → 8 ≤ s.cfg.psize →
    va = s.x .rs base + offset.signExtend 64 →
    Stores (.sb rt offset base) s va 1 (s.x .rt rt) ∧
    Stores (.sh rt offset base) s va 2 (s.x .rt rt) ∧
    (offset.toNat % 4 = 0 → Stores (.sw rt offset base) s va 4 (s.x .rt rt)) ∧
    (offset.toNat % 8 = 0 → Stores (.sd rt offset base) s va 8 (s.x .rt rt))

/-- The exceptions of the aligned loads and stores, of LL and LLD and of the FPU loads and stores,
misalignment before translation (20_memory.md R93, R96), and the refusal of an offset field with nonzero
low bits (R95), which the indexed forms do not have. -/
def Obligations.AlignedAccessExceptions : Prop :=
  (∀ (s : State) (rt base : RegNum) (offset : BitVec 16) (va : Word),
    va = s.x .rs base + offset.signExtend 64 →
    AccessRaises (.lb rt offset base) s va 1 .load ∧ AccessRaises (.lbu rt offset base) s va 1 .load ∧
    AccessRaises (.lh rt offset base) s va 2 .load ∧ AccessRaises (.lhu rt offset base) s va 2 .load ∧
    AccessRaises (.sb rt offset base) s va 1 .store ∧ AccessRaises (.sh rt offset base) s va 2 .store ∧
    (offset.toNat % 4 = 0 →
      AccessRaises (.lw rt offset base) s va 4 .load ∧
      AccessRaises (.lwu rt offset base) s va 4 .load ∧
      AccessRaises (.ll rt offset base) s va 4 .load ∧
      AccessRaises (.sw rt offset base) s va 4 .store) ∧
    (offset.toNat % 8 = 0 →
      AccessRaises (.ld rt offset base) s va 8 .load ∧
      AccessRaises (.lld rt offset base) s va 8 .load ∧
      AccessRaises (.sd rt offset base) s va 8 .store) ∧
    ∀ i : Instr,
      (offset.toNat % 4 ≠ 0 ∧ i ∈ [.lw rt offset base, .lwu rt offset base, .sw rt offset base,
          .ll rt offset base, .sc rt offset base] ∨
        offset.toNat % 8 ≠ 0 ∧ i ∈ [.ld rt offset base, .sd rt offset base, .lld rt offset base,
          .scd rt offset base]) →
      i.WellFormed = false ∧ exec i s = .refused .offsetField) ∧
  ∀ (s : State) (r index base : RegNum) (offset : BitVec 16) (va : Word), s.cfg.cu1 = true →
    (va = s.x .rs base + offset.signExtend 64 →
      (offset.toNat % 4 = 0 → AccessRaises (.lwc1 r offset base) s va 4 .load ∧
        AccessRaises (.swc1 r offset base) s va 4 .store) ∧
      (offset.toNat % 8 = 0 → AccessRaises (.ldc1 r offset base) s va 8 .load ∧
        AccessRaises (.sdc1 r offset base) s va 8 .store) ∧
      (offset.toNat % 4 ≠ 0 → exec (.lwc1 r offset base) s = .refused .offsetField ∧
        exec (.swc1 r offset base) s = .refused .offsetField) ∧
      (offset.toNat % 8 ≠ 0 → exec (.ldc1 r offset base) s = .refused .offsetField ∧
        exec (.sdc1 r offset base) s = .refused .offsetField)) ∧
    (va = s.x .rs base + s.x .rt index →
      AccessRaises (.lwxc1 r index base) s va 4 .load ∧
      AccessRaises (.swxc1 r index base) s va 4 .store ∧
      AccessRaises (.ldxc1 r index base) s va 8 .load ∧
      AccessRaises (.sdxc1 r index base) s va 8 .store)

/-- The unaligned loads (40_cpu_load_store.md R214, R215, R218, R219), on an access that succeeds, with
`p` the place of the address in its aligned word or doubleword. The left forms take the bytes from the
address on to the most significant end of the register and keep the rest of it; the right forms the
other bytes to the least significant end. LWR sets bits 63..32 as its parameter says unless it loads
the whole word. -/
def Obligations.UnalignedLoads : Prop :=
  ∀ (s : State) (rt base : RegNum) (offset : BitVec 16) (va : Word) (old p k : Nat) (as : List Nat),
    va = s.x .rs base + offset.signExtend 64 → old = (s.x .rt rt).toNat →
    let big := s.bigEndianCpu
    let m := (valueOfBytes big (as.map s.readByte)).toNat
    let loads (i : Instr) (P : Word → Prop) :=
      ∃ v, P v ∧ Completes i s { gprs := [rt], llBit := s.llBit } fun t => t.Holds rt v
    (p = va.toNat % 4 →
      (k = (if big then 4 - p else p + 1) →
        s.locate va (if big then va else va - BitVec.ofNat 64 p) k .load = .ok as →
        loads (.lwl rt offset base) (fun v =>
          v.toInt = (((m * 2 ^ (32 - 8 * k) + old % 2 ^ (32 - 8 * k) : Nat)) : Int).bmod (2 ^ 32))) ∧
      (k = (if big then p + 1 else 4 - p) →
        s.locate va (if big then va - BitVec.ofNat 64 p else va) k .load = .ok as →
        loads (.lwr rt offset base) (fun v =>
          v.toNat % 2 ^ 32 = m + old % 2 ^ 32 / 2 ^ (8 * k) * 2 ^ (8 * k) ∧
          if k < 4 ∧ s.cfg.lwrUpper = .keep then v.toNat / 2 ^ 32 = old / 2 ^ 32 else WordValue v))) ∧
    (p = va.toNat % 8 →
      (k = (if big then 8 - p else p + 1) →
        s.locate va (if big then va else va - BitVec.ofNat 64 p) k .load = .ok as →
        loads (.ldl rt offset base) (fun v =>
          v.toNat = m * 2 ^ (64 - 8 * k) + old % 2 ^ (64 - 8 * k))) ∧
      (k = (if big then p + 1 else 8 - p) →
        s.locate va (if big then va - BitVec.ofNat 64 p else va) k .load = .ok as →
        loads (.ldr rt offset base) (fun v =>
          v.toNat = m + old / 2 ^ (8 * k) * 2 ^ (8 * k))))

/-- The unaligned stores (40_cpu_load_store.md R216, R217, R220, R221), on an access that succeeds: the
left forms store the most significant bytes of the word or doubleword from the address on, the right
forms the least significant bytes; no other byte changes. -/
def Obligations.UnalignedStores : Prop :=
  ∀ (s : State) (rt base : RegNum) (offset : BitVec 16) (va : Word) (x p k : Nat) (as : List Nat),
    s.Inv → 8 ≤ s.cfg.psize →
    va = s.x .rs base + offset.signExtend 64 → x = (s.x .rt rt).toNat →
    let big := s.bigEndianCpu
    let stores (i : Instr) (m : Nat) :=
      Completes i s { bytes := as, llBit := s.llBit } fun t => t.HoldsBytes as m
    (p = va.toNat % 4 →
      (k = (if big then 4 - p else p + 1) →
        s.locate va (if big then va else va - BitVec.ofNat 64 p) k .store = .ok as →
        stores (.swl rt offset base) (x % 2 ^ 32 / 2 ^ (32 - 8 * k))) ∧
      (k = (if big then p + 1 else 4 - p) →
        s.locate va (if big then va - BitVec.ofNat 64 p else va) k .store = .ok as →
        stores (.swr rt offset base) (x % 2 ^ (8 * k)))) ∧
    (p = va.toNat % 8 →
      (k = (if big then 8 - p else p + 1) →
        s.locate va (if big then va else va - BitVec.ofNat 64 p) k .store = .ok as →
        stores (.sdl rt offset base) (x / 2 ^ (64 - 8 * k))) ∧
      (k = (if big then p + 1 else 8 - p) →
        s.locate va (if big then va - BitVec.ofNat 64 p else va) k .store = .ok as →
        stores (.sdr rt offset base) (x % 2 ^ (8 * k))))

/-- The unaligned loads and stores never raise Address Error for alignment; they raise what the
translation of their address or the memory system answers (20_memory.md R94, R96). -/
def Obligations.UnalignedAccessExceptions : Prop :=
  ∀ (s : State) (rt base : RegNum) (offset : BitVec 16) (va : Word) (p k : Nat) (e : Exc),
    va = s.x .rs base + offset.signExtend 64 →
    (p = va.toNat % 4 →
      (k = (if s.bigEndianCpu then 4 - p else p + 1) →
        (s.locate va (if s.bigEndianCpu then va else va - BitVec.ofNat 64 p) k .load = .error e →
          Raises (.lwl rt offset base) s e) ∧
        (s.locate va (if s.bigEndianCpu then va else va - BitVec.ofNat 64 p) k .store = .error e →
          Raises (.swl rt offset base) s e)) ∧
      (k = (if s.bigEndianCpu then p + 1 else 4 - p) →
        (s.locate va (if s.bigEndianCpu then va - BitVec.ofNat 64 p else va) k .load = .error e →
          Raises (.lwr rt offset base) s e) ∧
        (s.locate va (if s.bigEndianCpu then va - BitVec.ofNat 64 p else va) k .store = .error e →
          Raises (.swr rt offset base) s e))) ∧
    (p = va.toNat % 8 →
      (k = (if s.bigEndianCpu then 8 - p else p + 1) →
        (s.locate va (if s.bigEndianCpu then va else va - BitVec.ofNat 64 p) k .load = .error e →
          Raises (.ldl rt offset base) s e) ∧
        (s.locate va (if s.bigEndianCpu then va else va - BitVec.ofNat 64 p) k .store = .error e →
          Raises (.sdl rt offset base) s e)) ∧
      (k = (if s.bigEndianCpu then p + 1 else 8 - p) →
        (s.locate va (if s.bigEndianCpu then va - BitVec.ofNat 64 p else va) k .load = .error e →
          Raises (.ldr rt offset base) s e) ∧
        (s.locate va (if s.bigEndianCpu then va - BitVec.ofNat 64 p else va) k .store = .error e →
          Raises (.sdr rt offset base) s e)))

/-- LDL at an address and LDR seven bytes on, in big-endian order, together load the eight bytes from any
address (40_cpu_load_store.md R213): flat memory, the bytes defined, `base` holding a value and not the
destination. -/
def Obligations.UnalignedPairLoadsDoubleword : Prop :=
  ∀ (s t u : State) (rt base : RegNum) (offset offset' : BitVec 16) (b va : Word),
    rt ≠ 0 → base ≠ rt → s.cellX base = Reg.of b → s.bigEndianCpu = true → s.cfg.reverseEndian = false →
    s.cfg.translate = [] → s.cfg.psize = 64 → s.cfg.unbacked = [] →
    va = b + offset.signExtend 64 → offset'.toInt = offset.toInt + 7 →
    (∀ i < 8, (va + BitVec.ofNat 64 i).toNat ∉ s.undefMem) →
    exec (.ldl rt offset base) s = .next t → exec (.ldr rt offset' base) t = .next u →
    u.Holds rt (valueOfBytes true
      ((List.range 8).map fun i => s.mem.read (va + BitVec.ofNat 64 i).toNat))

/-- LL and LLD (40_cpu_load_store.md R222, R223), on an access that succeeds: the load, LLbit set, and
the physical address, width and kind of access type recorded (log 24). -/
def Obligations.LinkedLoads : Prop :=
  ∀ (s : State) (rt base : RegNum) (offset : BitVec 16) (va pa : Word) (cca : Cca) (as : List Nat),
    va = s.x .rs base + offset.signExtend 64 → s.translated va .load = .ok (pa, cca) →
    let m := valueOfBytes s.bigEndianCpu (as.map s.readByte)
    let links (i : Instr) (n : Nat) (P : Word → Prop) :=
      ∃ v, P v ∧ Completes i s { gprs := [rt], llBit := true, llAddr := true } fun t =>
        t.Holds rt v ∧ t.llBit = true ∧
          t.llAddr = { pa := pa, width := n, cached := decide (cca ≠ .uncached) }
    (offset.toNat % 4 = 0 → va.toNat % 4 = 0 → s.locate va va 4 .load = .ok as →
      links (.ll rt offset base) 4 (fun v => v.toInt = (m.toNat : Int).bmod (2 ^ 32))) ∧
    (offset.toNat % 8 = 0 → va.toNat % 8 = 0 → s.locate va va 8 .load = .ok as →
      links (.lld rt offset base) 8 (fun v => v = m))

/-- SC and SCD (40_cpu_load_store.md R224, R225, R226): after a linked load of the same cached location
they store and set the register to 1; with LLbit 0 they store nothing and set it to 0; both clear LLbit.
With LLbit 1 and another location, width or access type, one or the other happens (log 24). Alignment and
translation are tested first, whatever LLbit is. That a Bus Error is raised, and only when the store is
performed, is the model's choice (log 15: R224 does not list it, 20_memory.md R96 has it for every
access). -/
def Obligations.StoreConditional : Prop :=
  ∀ (s : State) (rt base : RegNum) (offset : BitVec 16) (va : Word) (i : Instr) (n : Nat),
    va = s.x .rs base + offset.signExtend 64 →
    (i = .sc rt offset base ∧ n = 4 ∨ i = .scd rt offset base ∧ n = 8) → offset.toNat % n = 0 →
    let fails := Completes i s { gprs := [rt], llBit := true } fun t => t.Holds rt 0 ∧ t.llBit = false
    let stores (as : List Nat) :=
      Completes i s { gprs := [rt], llBit := true, bytes := as } fun t =>
        t.Holds rt 1 ∧ t.llBit = false ∧
          t.HoldsBytes as ((s.x .rt rt).toNat % 2 ^ (8 * n))
    (va.toNat % n ≠ 0 → Raises i s (.addressError va .store)) ∧
    (∀ e, va.toNat % n = 0 → s.translated va .store = .error e → Raises i s e) ∧
    ∀ pa cca, va.toNat % n = 0 → s.translated va .store = .ok (pa, cca) →
      (s.llBit = false → fails) ∧
      (∀ as, s.Inv → 8 ≤ s.cfg.psize → s.llBit = true →
        s.llAddr = { pa := pa, width := n, cached := true } → cca ≠ .uncached →
        s.locate va va n .store = .ok as → stores as) ∧
      (∀ e, s.llBit = true → s.llAddr = { pa := pa, width := n, cached := true } → cca ≠ .uncached →
        s.locate va va n .store = .error e → Raises i s e) ∧
      (∀ as, s.Inv → 8 ≤ s.cfg.psize → s.llBit = true → s.locate va va n .store = .ok as →
        fails ∨ stores as) ∧
      (∀ e, s.llBit = true → s.locate va va n .store = .error e → fails ∨ Raises i s e)

/-! ### Jumps, branches, traps and the rest of the CPU -/

/-- The jumps (42_cpu_jump_branch.md R343 to R346), outside a delay slot: the target of J and JAL lies in
the 256-megabyte region of the delay slot, JR and JALR go to a register, and the linking forms leave
the address after the delay slot (R341). JALR with rd = rs is the subject of BranchRestrictions, rd = rs = 0
by the model's choice (log 41). -/
def Obligations.Jumps : Prop :=
  ∀ (s : State) (index : BitVec 26) (rd rs : RegNum) (target : Word), s.bd = false →
    target.toNat = (s.pc + 4).toNat / 2 ^ 28 * 2 ^ 28 + index.toNat * 4 →
    Branches (.j index) s True target {} (fun _ => True) ∧
    Branches (.jal index) s True target { gprs := [31] } (fun t => t.Holds 31 (s.pc + 8)) ∧
    Branches (.jr rs) s True (s.x .rs rs) {} (fun _ => True) ∧
    (rd ≠ rs →
      Branches (.jalr rd rs) s True (s.x .rs rs) { gprs := [rd] } (fun t => t.Holds rd (s.pc + 8)))

/-- The branches with an ordinary delay slot (42_cpu_jump_branch.md R347 to R350, R355 to R358,
47_fpu_convert_move_branch.md R580, R581), outside a delay slot: the condition, the target `pc + 4` plus
four times the offset (R341), and the link, which is written whether the branch is taken or not. -/
def Obligations.OrdinaryBranches : Prop :=
  ∀ (s : State) (rs rt : RegNum) (cc : BitVec 3) (offset : BitVec 16) (target : Word) (a b : Int),
    s.bd = false →
    target.toInt = (s.pc.toInt + 4 + 4 * offset.toInt).bmod (2 ^ 64) →
    a = (s.x .rs rs).toInt → b = (s.x .rt rt).toInt →
    Branches (.beq rs rt offset) s (a = b) target {} (fun _ => True) ∧
    Branches (.bne rs rt offset) s (a ≠ b) target {} (fun _ => True) ∧
    Branches (.blez rs offset) s (a ≤ 0) target {} (fun _ => True) ∧
    Branches (.bgtz rs offset) s (a > 0) target {} (fun _ => True) ∧
    Branches (.bltz rs offset) s (a < 0) target {} (fun _ => True) ∧
    Branches (.bgez rs offset) s (a ≥ 0) target {} (fun _ => True) ∧
    (rs ≠ 31 →
      Branches (.bltzal rs offset) s (a < 0) target { gprs := [31] }
        (fun t => t.Holds 31 (s.pc + 8)) ∧
      Branches (.bgezal rs offset) s (a ≥ 0) target { gprs := [31] }
        (fun t => t.Holds 31 (s.pc + 8))) ∧
    (s.cfg.cu1 = true →
      Branches (.bc1f cc offset) s (s.fcc cc = false) target {} (fun _ => True) ∧
      Branches (.bc1t cc offset) s (s.fcc cc = true) target {} (fun _ => True))

/-- The branches likely (42_cpu_jump_branch.md R351 to R354, R359 to R362, 47_fpu_convert_move_branch.md
R582, R583), outside a delay slot: not taken, the instruction in the delay slot is not executed (R340);
the link is written either way. -/
def Obligations.LikelyBranches : Prop :=
  ∀ (s : State) (rs rt : RegNum) (cc : BitVec 3) (offset : BitVec 16) (target : Word) (a b : Int),
    s.bd = false →
    target.toInt = (s.pc.toInt + 4 + 4 * offset.toInt).bmod (2 ^ 64) →
    a = (s.x .rs rs).toInt → b = (s.x .rt rt).toInt →
    BranchesLikely (.beql rs rt offset) s (a = b) target {} (fun _ => True) ∧
    BranchesLikely (.bnel rs rt offset) s (a ≠ b) target {} (fun _ => True) ∧
    BranchesLikely (.blezl rs offset) s (a ≤ 0) target {} (fun _ => True) ∧
    BranchesLikely (.bgtzl rs offset) s (a > 0) target {} (fun _ => True) ∧
    BranchesLikely (.bltzl rs offset) s (a < 0) target {} (fun _ => True) ∧
    BranchesLikely (.bgezl rs offset) s (a ≥ 0) target {} (fun _ => True) ∧
    (rs ≠ 31 →
      BranchesLikely (.bltzall rs offset) s (a < 0) target { gprs := [31] }
        (fun t => t.Holds 31 (s.pc + 8)) ∧
      BranchesLikely (.bgezall rs offset) s (a ≥ 0) target { gprs := [31] }
        (fun t => t.Holds 31 (s.pc + 8))) ∧
    (s.cfg.cu1 = true →
      BranchesLikely (.bc1fl cc offset) s (s.fcc cc = false) target {} (fun _ => True) ∧
      BranchesLikely (.bc1tl cc offset) s (s.fcc cc = true) target {} (fun _ => True))

/-- The restrictions of 42_cpu_jump_branch.md R342: a jump or branch in a delay slot, a linking branch
that tests GPR 31 and JALR with rd = rs are no instructions, and are refused. That JALR with rd = rs = 0 is
refused too is the model's choice (log 41: clause (b) also allows rd = 0). An FPU branch is refused
only once coprocessor 1 is found usable. -/
def Obligations.BranchRestrictions : Prop :=
  (∀ (i : Instr) (s : State), i.isJump = true → i.WellFormed = true → s.bd = true →
    (i.usesCop1 = true → s.cfg.cu1 = true) → exec i s = .refused .branchInDelaySlot) ∧
  (∀ (s : State) (r : RegNum), exec (.jalr r r) s = .refused .jalrSameRegister) ∧
  ∀ (i : Instr) (s : State) (offset : BitVec 16),
    i ∈ [.bltzal 31 offset, .bgezal 31 offset, .bltzall 31 offset, .bgezall 31 offset] →
    exec i s = .refused .linkRegister31

/-- SYSCALL and BREAK raise their exceptions unconditionally (43_cpu_misc.md R380, R381); the conditional
traps (R382 to R393, R404) raise Trap when the comparison holds, else do nothing but advance. The
immediate is sign-extended also for the unsigned forms; the code field plays no part. -/
def Obligations.ExceptionInstructions : Prop :=
  ∀ (s : State) (rs rt : RegNum) (code' : BitVec 20) (code : BitVec 10) (imm : BitVec 16)
    (a b c : Int) (u v w : Nat),
    a = (s.x .rs rs).toInt → b = (s.x .rt rt).toInt → c = imm.toInt →
    u = (s.x .rs rs).toNat → v = (s.x .rt rt).toNat → w = (BitVec.ofInt 64 imm.toInt).toNat →
    let traps (i : Instr) (cond : Prop) :=
      (cond → Raises i s .trap) ∧ (¬cond → Completes i s {} fun _ => True)
    Raises (.syscall code') s .systemCall ∧ Raises (.brk code') s .breakpoint ∧
    traps (.tge rs rt code) (a ≥ b) ∧ traps (.tgeu rs rt code) (u ≥ v) ∧
    traps (.tlt rs rt code) (a < b) ∧ traps (.tltu rs rt code) (u < v) ∧
    traps (.teq rs rt code) (a = b) ∧ traps (.tne rs rt code) (a ≠ b) ∧
    traps (.tgei rs imm) (a ≥ c) ∧ traps (.tgeiu rs imm) (u ≥ w) ∧
    traps (.tlti rs imm) (a < c) ∧ traps (.tltiu rs imm) (u < w) ∧
    traps (.teqi rs imm) (a = c) ∧ traps (.tnei rs imm) (a ≠ c)

/-- The conditional moves of general registers (43_cpu_misc.md R395 to R398): the move, or nothing. SYNC,
PREF and PREFX only advance (R394, R399, 45_fpu_transfer.md R478); a prefetch leaves LLbit open if it
was 1. -/
def Obligations.ConditionalMovesSyncAndPrefetch : Prop :=
  ∀ (s : State) (rd rs rt : RegNum) (cc : BitVec 3) (n : BitVec 5) (offset : BitVec 16),
    let moves (i : Instr) (cond : Prop) :=
      (cond → WritesX i s rd fun v => v = s.x .rs rs) ∧ (¬cond → Completes i s {} fun _ => True)
    moves (.movn rd rs rt) (s.x .rt rt ≠ 0) ∧ moves (.movz rd rs rt) (s.x .rt rt = 0) ∧
    Completes (.sync n) s {} (fun _ => True) ∧
    Completes (.pref n offset rs) s { llBit := s.llBit } (fun _ => True) ∧
    (s.cfg.cu1 = true →
      moves (.movf rd rs cc) (s.fcc cc = false) ∧ moves (.movt rd rs cc) (s.fcc cc = true) ∧
      Completes (.prefx n rt rs) s { llBit := s.llBit } fun _ => True)

/-! ### Transfers of the FPU -/

/-- The moves between general and CP1 registers (45_fpu_transfer.md R479 to R482). A word written leaves
the other half of a 64-bit register undefined and the other register of a 32-bit pair alone; a
doubleword for an odd number of the 32-bit model leaves the pair undefined (44_fpu_model.md R433, log 26),
and reading one there gives an undefined value. A value moved is uninterpreted (R432). -/
def Obligations.FpRegisterMoves : Prop :=
  ∀ (s : State) (rt fs : RegNum), s.cfg.cu1 = true →
    WritesX (.mfc1 rt fs) s rt (fun v =>
      v.toInt = (((s.fgrLow fs).read (s.draw .fs)).toNat : Int).bmod (2 ^ 32)) ∧
    (s.validFpr fs = true →
      WritesX (.dmfc1 rt fs) s rt (fun v => v = (s.fprDouble fs).read (s.draw .fs))) ∧
    (s.validFpr fs = false → UndefinesX (.dmfc1 rt fs) s rt) ∧
    Completes (.mtc1 rt fs) s { fgrs := [fs], tags := [s.fprIndex fs] } (fun t =>
      t.fgrLow fs = Reg.of (s.x .rt rt &&& lowHalf) ∧
      (s.cfg.fgr64 = true → t.fgr[fs.toNat].undef = highHalf) ∧
      (s.cfg.fprTags = .strict → t.tag fs = .uninterpreted)) ∧
    Completes (.dmtc1 rt fs) s { fgrs := s.fprRegs fs, tags := [s.fprIndex fs] } (fun t =>
      if s.validFpr fs then
        t.fprDouble fs = Reg.of (s.x .rt rt) ∧ (s.cfg.fprTags = .strict → t.tag fs = .uninterpreted)
      else t.FprResult fs .d 0)

/-- The loads to CP1 registers (45_fpu_transfer.md R470, R471, R474, R475, R485), on an access that
succeeds. An indexed load whose address leaves the region of its base loads an undefined value (log 37);
a doubleword for an odd number of the 32-bit model leaves the pair undefined (log 26). -/
def Obligations.FpLoads : Prop :=
  ∀ (s : State) (r index base : RegNum) (offset : BitVec 16) (va : Word) (as : List Nat),
    s.cfg.cu1 = true →
    let m := valueOfBytes s.bigEndianCpu (as.map s.readByte)
    let word (i : Instr) (ok : Bool) :=
      va.toNat % 4 = 0 → s.locate va va 4 .load = .ok as →
      Completes i s { fgrs := [r], tags := [s.fprIndex r], llBit := s.llBit } fun t =>
        t.fgrLow r = (if ok then Reg.of m else { val := 0, undef := lowHalf }) ∧
        (s.cfg.fgr64 = true → t.fgr[r.toNat].undef = if ok then highHalf else BitVec.allOnes 64) ∧
        (s.cfg.fprTags = .strict → t.tag r = .uninterpreted)
    let double (i : Instr) (ok : Bool) :=
      va.toNat % 8 = 0 → s.locate va va 8 .load = .ok as →
      Completes i s { fgrs := s.fprRegs r, tags := [s.fprIndex r], llBit := s.llBit } fun t =>
        if s.validFpr r then
          t.fprDouble r = (if ok then Reg.of m else Reg.unknown) ∧
            (s.cfg.fprTags = .strict → t.tag r = .uninterpreted)
        else t.FprResult r .d 0
    (va = s.x .rs base + offset.signExtend 64 →
      (offset.toNat % 4 = 0 → word (.lwc1 r offset base) true) ∧
      (offset.toNat % 8 = 0 → double (.ldc1 r offset base) true)) ∧
    (va = s.x .rs base + s.x .rt index →
      word (.lwxc1 r index base) (va.toNat / 2 ^ 62 == (s.x .rs base).toNat / 2 ^ 62) ∧
      double (.ldxc1 r index base) (va.toNat / 2 ^ 62 == (s.x .rs base).toNat / 2 ^ 62))

/-- The stores from CP1 registers (45_fpu_transfer.md R472, R473, R476, R477, R485), on an access that
succeeds: any word register; a doubleword register or pair. An indexed store whose address leaves the
region of its base, and a doubleword store from an odd number of the 32-bit model (44_fpu_model.md R433),
leave the bytes stored to undefined (log 12). -/
def Obligations.FpStores : Prop :=
  ∀ (s : State) (r index base : RegNum) (offset : BitVec 16) (va : Word), s.Inv → 8 ≤ s.cfg.psize →
    s.cfg.cu1 = true →
    (va = s.x .rs base + offset.signExtend 64 →
      (offset.toNat % 4 = 0 →
        Stores (.swc1 r offset base) s va 4 ((s.fgrLow r).read (s.draw .ft))) ∧
      (offset.toNat % 8 = 0 →
        (s.validFpr r = true →
          Stores (.sdc1 r offset base) s va 8 ((s.fprDouble r).read (s.draw .ft))) ∧
        (s.validFpr r = false → StoresUndef (.sdc1 r offset base) s va 8))) ∧
    (va = s.x .rs base + s.x .rt index →
      (va.toNat / 2 ^ 62 = (s.x .rs base).toNat / 2 ^ 62 →
        Stores (.swxc1 r index base) s va 4 ((s.fgrLow r).read (s.draw .fs)) ∧
        (s.validFpr r = true →
          Stores (.sdxc1 r index base) s va 8 ((s.fprDouble r).read (s.draw .fs))) ∧
        (s.validFpr r = false → StoresUndef (.sdxc1 r index base) s va 8)) ∧
      (va.toNat / 2 ^ 62 ≠ (s.x .rs base).toNat / 2 ^ 62 →
        StoresUndef (.swxc1 r index base) s va 4 ∧ StoresUndef (.sdxc1 r index base) s va 8))

/-- CFC1 and CTC1 (45_fpu_transfer.md R483, R484): FIR, the FCSR or an undefined value is read; a write of
the FCSR leaves bits 22..18 at 0 and raises Floating-Point, the register written, when cause E or a
cause bit and its enable are set; a write of any other control register does nothing. -/
def Obligations.ControlRegisters : Prop :=
  ∀ (s : State) (rt fs : RegNum) (f : BitVec 32), s.cfg.cu1 = true →
    WritesX (.cfc1 rt 0) s rt (fun v => v.toNat = s.cfg.firImp.toNat * 2 ^ 8 + s.cfg.firRev.toNat) ∧
    WritesX (.cfc1 rt 31) s rt (fun v => v.toInt = s.fcsr.toInt) ∧
    (fs ≠ 0 → fs ≠ 31 → UndefinesX (.cfc1 rt fs) s rt) ∧
    (f.toNat = (s.x .rt rt).toNat % 2 ^ 32 →
      (f.getLsbD 17 = false → (∀ k < 5, ¬(f.getLsbD (12 + k) = true ∧ f.getLsbD (7 + k) = true)) →
        Completes (.ctc1 rt 31) s { fcsr := true } fun t => t.fcsr = f &&& 0xff83ffff) ∧
      (f.getLsbD 17 = true ∨ (∃ k < 5, f.getLsbD (12 + k) = true ∧ f.getLsbD (7 + k) = true) →
        RaisesFp (.ctc1 rt 31) s (f &&& 0xff83ffff))) ∧
    (fs ≠ 31 → Completes (.ctc1 rt fs) s {} fun _ => True)

/-! ### Operations of the FPU -/

/-- What reading an operand register gives (44_fpu_model.md R430, R432, R433): with format tags, the
value if the tag is the format or uninterpreted, the register then being marked with the format; else
a free value, the register then being marked unknown. An odd number of the 32-bit model gives a free
value of the format (R433); that this changes no tag, and what a result leaves there, is the model's
choice (log 26). Where a result goes (R431, R433): a 64-bit register takes a doubleword whole and a
word in its low half, the high half undefined; a 32-bit pair takes the low word in the even register and
the high word, or `UNDEF_32`, in the odd one; nothing else changes but the tag. -/
def Obligations.FormattedRegisterAccess : Prop :=
  (∀ (s : State) (site : DrawSite) (n : RegNum) (fmt : Fmt),
    (∀ v, s.FprHolds n fmt v → s.valueFpr site n fmt = (v, s.setTag n (.is fmt))) ∧
    (s.validFpr n = true → s.cfg.fprTags = .bits →
      s.valueFpr site n fmt =
        (if isWide fmt then (s.fprDouble n).read (s.draw site) else (s.fgrLow n).read (s.draw site), s)) ∧
    (s.validFpr n = true → s.cfg.fprTags = .strict → s.tag n ≠ .is fmt → s.tag n ≠ .uninterpreted →
      s.valueFpr site n fmt =
        (if isWide fmt then s.draw site else s.draw site &&& lowHalf, s.setTag n .unknown)) ∧
    (s.validFpr n = false →
      s.valueFpr site n fmt = (if isWide fmt then s.draw site else s.draw site &&& lowHalf, s))) ∧
  ∀ (s : State) (n : RegNum) (fmt : Fmt) (v : Word) (t : State), t = s.storeFpr n fmt v →
    Frame s t { fgrs := s.fprRegs n, tags := [s.fprIndex n] } ∧ t.FprResult n fmt v ∧
    (s.cfg.fgr64 = true →
      t.fgr[n.toNat] =
        if isWide fmt then Reg.of v else { val := v &&& lowHalf, undef := highHalf }) ∧
    (s.cfg.fgr64 = false → n.getLsbD 0 = false →
      t.fgr[n.toNat] = Reg.of (v &&& lowHalf) ∧
      t.fgr[(n ^^^ 1).toNat] =
        if isWide fmt then Reg.of (v >>> 32) else { val := 0, undef := lowHalf })

/-- The arithmetic instructions of one and two operands (46_fpu_arith.md R500 to R508) finish, on every
operand value, with the result and conditions of their operation, in the rounding mode of the FCSR. ABS
clears the sign bit and NEG inverts it, infinities and zeros included, and raise nothing (R505, R506; for a
denormalized operand with FS or the Underflow enable set the model's choice, log 43);
RECIP and RSQRT of a zero are an infinity of its sign with Z, of an infinity a zero, and RSQRT of a number
below zero is invalid (R507, R508); a NaN operand of the four gives the default quiet NaN, with V if it is
signaling (44_fpu_model.md R456; that a part's QNaNOf has no say when V is raised is the model's choice,
log 42). The other results of RECIP and RSQRT, and of the operations of two
operands and SQRT, are the subject of statements of their own. -/
def Obligations.FpArithmetic : Prop :=
  (∀ (c : Config) (f : BitVec 32) (fmt : Fmt) (a : Word), fmt = .s ∨ fmt = .d →
    let x := decodeNum fmt a
    let sign := if fmt = .d then 63 else 31
    let invalid := (defaultQNaN fmt, condV)
    let ops := [fpAbs c fmt a, fpNeg c fmt a, fpRecip c f fmt a, fpRsqrt c f fmt a]
    (x = .nan true → ∀ r ∈ ops, r = invalid) ∧
    (x = .nan false → c.qnan = .default → ∀ r ∈ ops, r = (defaultQNaN fmt, condNone)) ∧
    (x.isNaN = false →
      (fpAbs c fmt a).2 = condNone ∧ (fpNeg c fmt a).2 = condNone ∧
      (∀ k < 64, (fpAbs c fmt a).1.getLsbD k = (a.getLsbD k && k != sign)) ∧
      ∀ k < 64, (fpNeg c fmt a).1.getLsbD k = (a.getLsbD k ^^ k == sign)) ∧
    (x.isFinite = true → x.toRat = 0 →
      fpRecip c f fmt a = (fpInf fmt (signBit fmt a), condZ) ∧
      fpRsqrt c f fmt a = (fpInf fmt (signBit fmt a), condZ)) ∧
    (∀ neg, x = .inf neg → fpRecip c f fmt a = (fpZero fmt neg, condNone) ∧
      fpRsqrt c f fmt a = if neg then invalid else (fpZero fmt false, condNone)) ∧
    (x.isFinite = true → x.toRat < 0 → fpRsqrt c f fmt a = invalid)) ∧
  ∀ (s : State) (fd fs ft : RegNum),
    BinaryFp (.addS fd fs ft) s .add .s (fpAdd s.cfg s.fcsr .s) fd fs ft ∧
    BinaryFp (.addD fd fs ft) s .add .d (fpAdd s.cfg s.fcsr .d) fd fs ft ∧
    BinaryFp (.subS fd fs ft) s .sub .s (fpSub s.cfg s.fcsr .s) fd fs ft ∧
    BinaryFp (.subD fd fs ft) s .sub .d (fpSub s.cfg s.fcsr .d) fd fs ft ∧
    BinaryFp (.mulS fd fs ft) s .mul .s (fpMul s.cfg s.fcsr .s) fd fs ft ∧
    BinaryFp (.mulD fd fs ft) s .mul .d (fpMul s.cfg s.fcsr .d) fd fs ft ∧
    BinaryFp (.divS fd fs ft) s .div .s (fpDiv s.cfg s.fcsr .s) fd fs ft ∧
    BinaryFp (.divD fd fs ft) s .div .d (fpDiv s.cfg s.fcsr .d) fd fs ft ∧
    UnaryFp (.sqrtS fd fs) s .sqrt .s .s (fpSqrt s.cfg s.fcsr .s) fd fs ∧
    UnaryFp (.sqrtD fd fs) s .sqrt .d .d (fpSqrt s.cfg s.fcsr .d) fd fs ∧
    UnaryFp (.absS fd fs) s .abs .s .s (fpAbs s.cfg .s) fd fs ∧
    UnaryFp (.absD fd fs) s .abs .d .d (fpAbs s.cfg .d) fd fs ∧
    UnaryFp (.negS fd fs) s .neg .s .s (fpNeg s.cfg .s) fd fs ∧
    UnaryFp (.negD fd fs) s .neg .d .d (fpNeg s.cfg .d) fd fs ∧
    UnaryFp (.recipS fd fs) s .recip .s .s (fpRecip s.cfg s.fcsr .s) fd fs ∧
    UnaryFp (.recipD fd fs) s .recip .d .d (fpRecip s.cfg s.fcsr .d) fd fs ∧
    UnaryFp (.rsqrtS fd fs) s .rsqrt .s .s (fpRsqrt s.cfg s.fcsr .s) fd fs ∧
    UnaryFp (.rsqrtD fd fs) s .rsqrt .d .d (fpRsqrt s.cfg s.fcsr .d) fd fs

/-- The multiply-accumulate instructions (46_fpu_arith.md R509 to R513) finish, on every operand value,
with `fpMadd` of their operands, whose value is this. A NaN operand gives the default quiet NaN, with V if
one is signaling; zero times infinity is invalid (whatever a part's QNaNOf, log 42). In the unrounded
model finite operands give the delivery, with one rounding, of the exact a * b + d or a * b - d, and an
infinite product or addend that infinity or, of opposite signs, an invalid operation. In the rounded model the result is that of MUL, then ADD or SUB,
with the conditions of both (44_fpu_model.md R459; log 38). NMADD and NMSUB have the result of MADD and
MSUB with the sign bit inverted after rounding; a NaN is unchanged, but for a part whose QNaNOf inverts
its sign (92_eei_decisions.md D14). -/
def Obligations.FpMultiplyAdd : Prop :=
  (∀ (c : Config) (f : BitVec 32) (op : FpOp) (sub : Bool) (fmt : Fmt) (d a b : Word),
    fmt = .s ∨ fmt = .d →
    let x := decodeNum fmt a
    let y := decodeNum fmt b
    let z := decodeNum fmt d
    let r := fpMadd c f op sub false fmt d a b
    let sp := signBit fmt a ^^ signBit fmt b
    let sd := signBit fmt d ^^ sub
    let invalid := (defaultQNaN fmt, condV)
    let noNaN := x.isNaN = false ∧ y.isNaN = false ∧ z.isNaN = false
    let badProduct := (∃ s, x = .inf s) ∧ y.isFinite = true ∧ y.toRat = 0 ∨
      (∃ s, y = .inf s) ∧ x.isFinite = true ∧ x.toRat = 0
    (x = .nan true ∨ y = .nan true ∨ z = .nan true → r = invalid) ∧
    (x ≠ .nan true → y ≠ .nan true → z ≠ .nan true →
      x = .nan false ∨ y = .nan false ∨ z = .nan false → c.qnan = .default →
      r = (defaultQNaN fmt, condNone)) ∧
    (noNaN → badProduct → r = invalid) ∧
    (noNaN → ¬badProduct → c.madd = .unrounded →
      (x.isFinite = true → y.isFinite = true → z.isFinite = true →
        ∃ neg mant exp, r = roundValue c f fmt neg mant exp false ∧
          (Num.fin neg mant exp).toRat = x.toRat * y.toRat + (if sub then -1 else 1) * z.toRat ∧
          (mant = 0 → neg = if sp = sd then sp else decide (fcsrRm f = 3))) ∧
      (x.isFinite = true → y.isFinite = true → (∃ t, z = .inf t) → r = (fpInf fmt sd, condNone)) ∧
      ((∃ t, x = .inf t) ∨ (∃ t, y = .inf t) →
        r = if z.isFinite = true ∨ sp = sd then (fpInf fmt sp, condNone) else invalid)) ∧
    (noNaN → ¬badProduct → c.madd = .rounded →
      let m := fpMul c f fmt a b
      let t := if sub then fpSub c f fmt m.1 d else fpAdd c f fmt m.1 d
      r = (t.1, m.2 ||| t.2)) ∧
    let n := fpMadd c f op sub true fmt d a b
    let flipped := r.1 ^^^ (if fmt = .d then 0x8000000000000000 else 0x80000000)
    n.2 = r.2 ∧
    if (decodeNum fmt r.1).isNaN then
      n.1 = r.1 ∨ c.qnan = .part ∧ n.1 = flipped
    else n.1 = flipped) ∧
  ∀ (s : State) (fd fr fs ft : RegNum),
    TernaryFp (.maddS fd fr fs ft) s .madd .s
      (fpMadd s.cfg s.fcsr .madd false false .s) fd fr fs ft ∧
    TernaryFp (.maddD fd fr fs ft) s .madd .d
      (fpMadd s.cfg s.fcsr .madd false false .d) fd fr fs ft ∧
    TernaryFp (.msubS fd fr fs ft) s .msub .s
      (fpMadd s.cfg s.fcsr .msub true false .s) fd fr fs ft ∧
    TernaryFp (.msubD fd fr fs ft) s .msub .d
      (fpMadd s.cfg s.fcsr .msub true false .d) fd fr fs ft ∧
    TernaryFp (.nmaddS fd fr fs ft) s .nmadd .s
      (fpMadd s.cfg s.fcsr .nmadd false true .s) fd fr fs ft ∧
    TernaryFp (.nmaddD fd fr fs ft) s .nmadd .d
      (fpMadd s.cfg s.fcsr .nmadd false true .d) fd fr fs ft ∧
    TernaryFp (.nmsubS fd fr fs ft) s .nmsub .s
      (fpMadd s.cfg s.fcsr .nmsub true true .s) fd fr fs ft ∧
    TernaryFp (.nmsubD fd fr fs ft) s .nmsub .d
      (fpMadd s.cfg s.fcsr .nmsub true true .d) fd fr fs ft

/-- The conversions (47_fpu_convert_move_branch.md R540 to R552): CVT in the rounding mode of the FCSR,
ROUND to nearest, TRUNC toward zero, CEIL and FLOOR toward plus and minus infinity. CVT.S and CVT.D
deliver the number a floating-point operand holds, or the integer of a word or longword, in the new format;
an infinity stays one, and a NaN gives the default quiet NaN, with V if it is signaling (R540, R541;
whatever a part's QNaNOf when V is raised, log 42). -/
def Obligations.FpConversions : Prop :=
  (∀ (c : Config) (f : BitVec 32) (src dst : Fmt) (a : Word), dst = .s ∨ dst = .d →
    let delivers (r : Word × Conds) (neg : Bool) (v : ℚ) :=
      ∃ mant exp, r = roundValue c f dst neg mant exp false ∧ (Num.fin neg mant exp).toRat = v
    let x := decodeNum src a
    (src = .s ∨ src = .d →
      (x = .nan true → fpToFloat c f src dst a = (defaultQNaN dst, condV)) ∧
      (x = .nan false → c.qnan = .default →
        fpToFloat c f src dst a = (defaultQNaN dst, condNone)) ∧
      (∀ neg, x = .inf neg → fpToFloat c f src dst a = (fpInf dst neg, condNone)) ∧
      (x.isFinite = true → delivers (fpToFloat c f src dst a) (signBit src a) x.toRat)) ∧
    delivers (fpFromFixed c f .w dst a) (decide ((a.setWidth 32).toInt < 0)) (a.setWidth 32).toInt ∧
    delivers (fpFromFixed c f .l dst a) (decide (a.toInt < 0)) a.toInt) ∧
  ∀ (s : State) (fd fs : RegNum),
    UnaryFp (.cvtSD fd fs) s (.convert .s) .d .s
      (fpToFloat s.cfg s.fcsr .d .s) fd fs ∧
    UnaryFp (.cvtDS fd fs) s (.convert .d) .s .d
      (fpToFloat s.cfg s.fcsr .s .d) fd fs ∧
    UnaryFp (.cvtSW fd fs) s (.convert .s) .w .s
      (fpFromFixed s.cfg s.fcsr .w .s) fd fs ∧
    UnaryFp (.cvtSL fd fs) s (.convert .s) .l .s
      (fpFromFixed s.cfg s.fcsr .l .s) fd fs ∧
    UnaryFp (.cvtDW fd fs) s (.convert .d) .w .d
      (fpFromFixed s.cfg s.fcsr .w .d) fd fs ∧
    UnaryFp (.cvtDL fd fs) s (.convert .d) .l .d
      (fpFromFixed s.cfg s.fcsr .l .d) fd fs ∧
    UnaryFp (.cvtWS fd fs) s (.convert .w) .s .w
      (fpToFixed (fcsrRm s.fcsr) .s .w) fd fs ∧
    UnaryFp (.cvtWD fd fs) s (.convert .w) .d .w
      (fpToFixed (fcsrRm s.fcsr) .d .w) fd fs ∧
    UnaryFp (.cvtLS fd fs) s (.convert .l) .s .l
      (fpToFixed (fcsrRm s.fcsr) .s .l) fd fs ∧
    UnaryFp (.cvtLD fd fs) s (.convert .l) .d .l
      (fpToFixed (fcsrRm s.fcsr) .d .l) fd fs ∧
    UnaryFp (.roundWS fd fs) s (.round .w) .s .w (fpToFixed 0 .s .w) fd fs ∧
    UnaryFp (.roundWD fd fs) s (.round .w) .d .w (fpToFixed 0 .d .w) fd fs ∧
    UnaryFp (.roundLS fd fs) s (.round .l) .s .l (fpToFixed 0 .s .l) fd fs ∧
    UnaryFp (.roundLD fd fs) s (.round .l) .d .l (fpToFixed 0 .d .l) fd fs ∧
    UnaryFp (.truncWS fd fs) s (.trunc .w) .s .w (fpToFixed 1 .s .w) fd fs ∧
    UnaryFp (.truncWD fd fs) s (.trunc .w) .d .w (fpToFixed 1 .d .w) fd fs ∧
    UnaryFp (.truncLS fd fs) s (.trunc .l) .s .l (fpToFixed 1 .s .l) fd fs ∧
    UnaryFp (.truncLD fd fs) s (.trunc .l) .d .l (fpToFixed 1 .d .l) fd fs ∧
    UnaryFp (.ceilWS fd fs) s (.ceil .w) .s .w (fpToFixed 2 .s .w) fd fs ∧
    UnaryFp (.ceilWD fd fs) s (.ceil .w) .d .w (fpToFixed 2 .d .w) fd fs ∧
    UnaryFp (.ceilLS fd fs) s (.ceil .l) .s .l (fpToFixed 2 .s .l) fd fs ∧
    UnaryFp (.ceilLD fd fs) s (.ceil .l) .d .l (fpToFixed 2 .d .l) fd fs ∧
    UnaryFp (.floorWS fd fs) s (.floor .w) .s .w (fpToFixed 3 .s .w) fd fs ∧
    UnaryFp (.floorWD fd fs) s (.floor .w) .d .w (fpToFixed 3 .d .w) fd fs ∧
    UnaryFp (.floorLS fd fs) s (.floor .l) .s .l (fpToFixed 3 .s .l) fd fs ∧
    UnaryFp (.floorLD fd fs) s (.floor .l) .d .l (fpToFixed 3 .d .l) fd fs

/-- The sixteen comparisons of both formats (46_fpu_arith.md R514). -/
def Obligations.FpCompares : Prop :=
  ∀ (s : State) (cc : BitVec 3) (fs ft : RegNum),
    ComparesFp (.cFS cc fs ft) s 0x0#4 .s cc fs ft ∧
    ComparesFp (.cFD cc fs ft) s 0x0#4 .d cc fs ft ∧
    ComparesFp (.cUnS cc fs ft) s 0x1#4 .s cc fs ft ∧
    ComparesFp (.cUnD cc fs ft) s 0x1#4 .d cc fs ft ∧
    ComparesFp (.cEqS cc fs ft) s 0x2#4 .s cc fs ft ∧
    ComparesFp (.cEqD cc fs ft) s 0x2#4 .d cc fs ft ∧
    ComparesFp (.cUeqS cc fs ft) s 0x3#4 .s cc fs ft ∧
    ComparesFp (.cUeqD cc fs ft) s 0x3#4 .d cc fs ft ∧
    ComparesFp (.cOltS cc fs ft) s 0x4#4 .s cc fs ft ∧
    ComparesFp (.cOltD cc fs ft) s 0x4#4 .d cc fs ft ∧
    ComparesFp (.cUltS cc fs ft) s 0x5#4 .s cc fs ft ∧
    ComparesFp (.cUltD cc fs ft) s 0x5#4 .d cc fs ft ∧
    ComparesFp (.cOleS cc fs ft) s 0x6#4 .s cc fs ft ∧
    ComparesFp (.cOleD cc fs ft) s 0x6#4 .d cc fs ft ∧
    ComparesFp (.cUleS cc fs ft) s 0x7#4 .s cc fs ft ∧
    ComparesFp (.cUleD cc fs ft) s 0x7#4 .d cc fs ft ∧
    ComparesFp (.cSfS cc fs ft) s 0x8#4 .s cc fs ft ∧
    ComparesFp (.cSfD cc fs ft) s 0x8#4 .d cc fs ft ∧
    ComparesFp (.cNgleS cc fs ft) s 0x9#4 .s cc fs ft ∧
    ComparesFp (.cNgleD cc fs ft) s 0x9#4 .d cc fs ft ∧
    ComparesFp (.cSeqS cc fs ft) s 0xa#4 .s cc fs ft ∧
    ComparesFp (.cSeqD cc fs ft) s 0xa#4 .d cc fs ft ∧
    ComparesFp (.cNglS cc fs ft) s 0xb#4 .s cc fs ft ∧
    ComparesFp (.cNglD cc fs ft) s 0xb#4 .d cc fs ft ∧
    ComparesFp (.cLtS cc fs ft) s 0xc#4 .s cc fs ft ∧
    ComparesFp (.cLtD cc fs ft) s 0xc#4 .d cc fs ft ∧
    ComparesFp (.cNgeS cc fs ft) s 0xd#4 .s cc fs ft ∧
    ComparesFp (.cNgeD cc fs ft) s 0xd#4 .d cc fs ft ∧
    ComparesFp (.cLeS cc fs ft) s 0xe#4 .s cc fs ft ∧
    ComparesFp (.cLeD cc fs ft) s 0xe#4 .d cc fs ft ∧
    ComparesFp (.cNgtS cc fs ft) s 0xf#4 .s cc fs ft ∧
    ComparesFp (.cNgtD cc fs ft) s 0xf#4 .d cc fs ft

/-- Every arithmetic, conversion and compare instruction, and every formatted move, goes on whatever its
operands hold, defined or not: it completes, changing no more than CP1 registers, tags and
the FCSR, or (a formatted move by the model's choice, log 27) it raises Floating-Point
with only the cause field changed (44_fpu_model.md R444). -/
def Obligations.FpAlwaysFinishes : Prop :=
  ∀ (i : Instr) (s : State), i.finishesFp = true ∨ i.isFpMove = true → s.cfg.cu1 = true →
    Completes i s { fgrs := allRegs, tags := allRegs, fcsr := true } (fun _ => True) ∨
    ∃ f, f &&& 0xfffc0fff = s.fcsr &&& 0xfffc0fff ∧ RaisesFp i s f

/-- The formatted moves (47_fpu_convert_move_branch.md R560 to R564, 44_fpu_model.md R462): the operand, if
the condition holds, or else the destination's own value, is rewritten in the destination as a value
of the format; no IEEE condition is raised and the FCSR is unchanged. A source that is moved and is not also
the destination is marked with the format, were it uninterpreted before; a source that is not moved keeps
its tag (R432). The clause on a claimed move is the model's choice (log 27), and not R442's own words, which
are about the operations of FPResult: where the predicate Unimpl, by default never true, claims the value
the move would write, for a false condition the destination's own, Floating-Point is raised with only cause
E set and the other cause bits cleared. -/
def Obligations.FpMoves : Prop :=
  ∀ (s : State) (fd fs rt : RegNum) (cc : BitVec 3), s.cfg.cu1 = true →
    let moves (i : Instr) (op : FpOp) (fmt : Fmt) (cond : Prop) :=
      ∀ v, (cond → s.FprHolds fs fmt v) → (¬cond → s.FprHolds fd fmt v) →
        if s.claimed op fmt v 0 0 then ∃ f, FcsrTrapped s.fcsr f condE ∧ RaisesFp i s f
        else
          Completes i s { fgrs := s.fprRegs fd, tags := [fd, fs].map s.fprIndex } fun t =>
            t.FprResult fd fmt v ∧ (s.fprIndex fs ≠ s.fprIndex fd →
              (cond → s.cfg.fprTags = .strict → t.tag fs = .is fmt) ∧
              (¬cond ∨ s.cfg.fprTags = .bits → t.tag fs = s.tag fs))
    moves (.movS fd fs) .mov .s True ∧
    moves (.movfS fd fs cc) .movf .s (s.fcc cc = false) ∧
    moves (.movtS fd fs cc) .movt .s (s.fcc cc = true) ∧
    moves (.movnS fd fs rt) .movn .s (s.x .rt rt ≠ 0) ∧
    moves (.movzS fd fs rt) .movz .s (s.x .rt rt = 0) ∧
    moves (.movD fd fs) .mov .d True ∧
    moves (.movfD fd fs cc) .movf .d (s.fcc cc = false) ∧
    moves (.movtD fd fs cc) .movt .d (s.fcc cc = true) ∧
    moves (.movnD fd fs rt) .movn .d (s.x .rt rt ≠ 0) ∧
    moves (.movzD fd fs rt) .movz .d (s.x .rt rt = 0)

/-! ### Floating-point results -/

/-- Rounding a magnitude `x * 2 ^ q` to a multiple of `2 ^ q` (10_state.md R53, 44_fpu_model.md R455), the
magnitude being `mant * 2 ^ exp` or, with `rest`, lying between that and the next multiple of `2 ^ exp`:
the result is off by less than one unit, and is exact just when it is not reported inexact; toward
zero and toward an infinity it lies on that side; to nearest it is off by at most half a unit, and a
tie goes to the even multiple. -/
def Obligations.RoundingToAMultiple : Prop :=
  ∀ (rm : BitVec 2) (neg : Bool) (mant : Nat) (exp q : Int) (x : ℚ) (rest : Bool) (n : Nat)
    (inexact : Bool),
    (if rest then exp < q ∧ mant * (2 : ℚ) ^ (exp - q) < x ∧ x < (mant + 1) * (2 : ℚ) ^ (exp - q)
      else x = mant * (2 : ℚ) ^ (exp - q)) →
    roundAt rm neg mant exp rest q = (n, inexact) →
    (inexact = false ↔ (n : ℚ) = x) ∧ |(n : ℚ) - x| < 1 ∧
    (rm = 0 → |(n : ℚ) - x| ≤ 1 / 2 ∧ (|(n : ℚ) - x| = 1 / 2 → n % 2 = 0)) ∧
    (rm = 1 → (n : ℚ) ≤ x) ∧
    (rm = 2 → if neg then (n : ℚ) ≤ x else x ≤ n) ∧
    (rm = 3 → if neg then x ≤ (n : ℚ) else n ≤ x)

/-- What is delivered for an exact result of magnitude `mant * 2 ^ exp`, or with `rest` a little more
(44_fpu_model.md R455), in the binade of `2 ^ b`. Rounded to the precision of the format it is `n` units
of `2 ^ (b - p + 1)`. In the range of the normal numbers that is the result, Inexact when it is not exact.
Below it the result is tiny (R448): it is the magnitude rounded to a multiple of the least denormalized
number, with Inexact when that is not exact and Underflow when it is not exact or Underflow is enabled; but
with FS set, unless it rounds to zero, it is flushed to the zero of its sign, or to the least normal
number where the parameter FlushResult says so, with Underflow and Inexact (R447, log 17). A
delivered result that raises no Inexact is the exact value (R449). An exact zero is the zero of the sign
given, with no condition (R455, R461). -/
def Obligations.ResultIsExactUnlessInexact : Prop :=
  (∀ (c : Config) (f : BitVec 32) (fmt : Fmt) (neg : Bool) (mant : Nat) (exp : Int) (r : Word)
    (e : Conds), fmt = .s ∨ fmt = .d → roundValue c f fmt neg mant exp false = (r, e) →
    e &&& condI = 0 →
    (decodeNum fmt r).isFinite = true ∧ (decodeNum fmt r).toRat = (Num.fin neg mant exp).toRat) ∧
  (∀ (c : Config) (f : BitVec 32) (fmt : Fmt) (neg : Bool) (exp : Int), fmt = .s ∨ fmt = .d →
    roundValue c f fmt neg 0 exp false = (fpZero fmt neg, condNone)) ∧
  ∀ (c : Config) (f : BitVec 32) (fmt : Fmt) (neg : Bool) (mant : Nat) (exp b : Int) (rest : Bool)
    (n : Nat) (inexact : Bool), fmt = .s ∨ fmt = .d →
    (rest = true → 2 ^ (fmtPrec fmt + 1) ≤ mant) →
    (2 : ℚ) ^ b ≤ mant * (2 : ℚ) ^ exp → mant * (2 : ℚ) ^ exp < (2 : ℚ) ^ (b + 1) →
    roundAt (fcsrRm f) neg mant exp rest (b - (fmtPrec fmt - 1)) = (n, inexact) →
    let w := (n : ℚ) * (2 : ℚ) ^ (b - (fmtPrec fmt - 1))
    let sign : ℚ := if neg then -1 else 1
    let r := roundValue c f fmt neg mant exp rest
    ((2 : ℚ) ^ fmtEmin fmt ≤ w → w < (2 : ℚ) ^ (fmtEmax fmt + 1) →
      signBit fmt r.1 = neg ∧ (decodeNum fmt r.1).isFinite = true ∧
      (decodeNum fmt r.1).toRat = sign * w ∧ r.2 = if inexact then condI else condNone) ∧
    (w < (2 : ℚ) ^ fmtEmin fmt →
      ∀ n' inexact', roundAt (fcsrRm f) neg mant exp rest (fmtEmin fmt - (fmtPrec fmt - 1)) =
        (n', inexact') →
      signBit fmt r.1 = neg ∧ (decodeNum fmt r.1).isFinite = true ∧
      if fcsrFlush f = true ∧ n' ≠ 0 then
        (decodeNum fmt r.1).toRat =
          (if (fcsrRm f, neg) ∈ c.flushToMin then sign * (2 : ℚ) ^ fmtEmin fmt else 0) ∧
        r.2 = 0b000011#6
      else
        (decodeNum fmt r.1).toRat = sign * (n' * (2 : ℚ) ^ (fmtEmin fmt - (fmtPrec fmt - 1))) ∧
        r.2 = (if inexact' = true then 0b000011#6
               else if (fcsrEnables f).getLsbD 1 = true then 0b000010#6 else 0))

/-- The sum, difference and product of finite numbers are the delivery of the exact result
(44_fpu_model.md R455, R457, 46_fpu_arith.md R500 to R502); an exact zero sum of opposite signs is
-0 in the mode toward minus infinity and +0 else (R461). -/
def Obligations.SumAndProductRoundTheExactResult : Prop :=
  ∀ (c : Config) (f : BitVec 32) (fmt : Fmt) (a b : Word) (x y : ℚ),
    (decodeNum fmt a).isFinite = true → (decodeNum fmt b).isFinite = true →
    x = (decodeNum fmt a).toRat → y = (decodeNum fmt b).toRat →
    let delivers (r : Word × Conds) (z : ℚ) (zeroNeg : Bool) :=
      ∃ neg mant exp, r = roundValue c f fmt neg mant exp false ∧ (Num.fin neg mant exp).toRat = z ∧
        (z = 0 → neg = zeroNeg)
    let sa := signBit fmt a
    let sb := signBit fmt b
    delivers (fpAdd c f fmt a b) (x + y) (if sa = sb then sa else decide (fcsrRm f = 3)) ∧
    delivers (fpSub c f fmt a b) (x - y) (if sa = !sb then sa else decide (fcsrRm f = 3)) ∧
    delivers (fpMul c f fmt a b) (x * y) (sa ^^ sb)

/-- The quotient of finite nonzero numbers, and the square root of a positive number, are the delivery
of the exact result (46_fpu_arith.md R503, R504): of a value within which the exact one lies, the part
beyond it being reported when there is one, with more bits than rounding needs. So are, by default, RECIP
and RSQRT (R507, R508). A part's own RECIP is off by no more than one unit in the last place and its RSQRT
by no more than two (44_fpu_model.md R458), wherever a result is delivered that neither overflows nor is
flushed; the unit is that of the correctly rounded result (the model's reading, log 33). -/
def Obligations.QuotientAndRootRoundTheExactResult : Prop :=
  ∀ (c : Config) (f : BitVec 32) (fmt : Fmt) (a b : Word) (x y : ℚ),
    (decodeNum fmt a).isFinite = true → (decodeNum fmt b).isFinite = true →
    x = (decodeNum fmt a).toRat → y = (decodeNum fmt b).toRat → x ≠ 0 → y ≠ 0 →
    let delivers (r : Word × Conds) (neg : Bool) (atMost below exact : ℚ → Prop) :=
      ∃ mant exp rest, r = roundValue c f fmt neg mant exp rest ∧ 2 ^ (fmtPrec fmt + 1) ≤ mant ∧
        atMost (mant * (2 : ℚ) ^ exp) ∧ below ((mant + 1) * (2 : ℚ) ^ exp) ∧
        (rest = false ↔ exact (mant * (2 : ℚ) ^ exp))
    let kept (r : Word × Conds) :=
      (decodeNum fmt r.1).isFinite = true ∧ r.2 &&& condO = 0 ∧
        (fcsrFlush f = true → r.2 &&& condU = 0)
    let rounded := { c with recip := .default, rsqrt := .default }
    delivers (fpDiv c f fmt a b) (signBit fmt a ^^ signBit fmt b) (· ≤ |x / y|) (|x / y| < ·)
      (· = |x / y|) ∧
    (c.recip = .default →
      delivers (fpRecip c f fmt a) (signBit fmt a) (· ≤ |1 / x|) (|1 / x| < ·) (· = |1 / x|)) ∧
    (0 < x →
      delivers (fpSqrt c f fmt a) false (· ^ 2 ≤ x) (x < · ^ 2) (· ^ 2 = x) ∧
      (c.rsqrt = .default →
        delivers (fpRsqrt c f fmt a) false (· ^ 2 * x ≤ 1) (1 < · ^ 2 * x) (· ^ 2 * x = 1))) ∧
    (fmt = .s ∨ fmt = .d →
      (∀ v ulp, kept (fpRecip c f fmt a) → v = (decodeNum fmt (fpRecip c f fmt a).1).toRat →
        ulp = (2 : ℚ) ^ ulpExp fmt (fpRecip rounded f fmt a).1 → |v - 1 / x| ≤ ulp) ∧
      ∀ v ulp, 0 < x → kept (fpRsqrt c f fmt a) → v = (decodeNum fmt (fpRsqrt c f fmt a).1).toRat →
        ulp = (2 : ℚ) ^ ulpExp fmt (fpRsqrt rounded f fmt a).1 →
        0 ≤ v ∧ (2 * ulp < v → (v - 2 * ulp) ^ 2 * x ≤ 1) ∧ 1 ≤ (v + 2 * ulp) ^ 2 * x)

/-- The exceptional operands of ADD, SUB, MUL, DIV and SQRT (44_fpu_model.md R443, R445, R456, R461,
46_fpu_arith.md R500 to R504): a signaling NaN and the invalid operations give the default quiet NaN and V
(whatever a part's QNaNOf: the model's choice, log 42); a quiet NaN gives, by default, that NaN and no
condition; a finite nonzero number divided by zero gives an infinity and Z, and zero divided by one a zero,
with the sign of the quotient; infinities are added, multiplied and divided with their signs; the square
root of a zero is that zero, and of plus infinity plus infinity. -/
def Obligations.ExceptionalOperands : Prop :=
  ∀ (c : Config) (f : BitVec 32) (fmt : Fmt) (a b : Word), fmt = .s ∨ fmt = .d →
    let x := decodeNum fmt a
    let y := decodeNum fmt b
    let invalid := (defaultQNaN fmt, condV)
    let ops := [fpAdd c f fmt a b, fpSub c f fmt a b, fpMul c f fmt a b, fpDiv c f fmt a b]
    (x = .nan true ∨ y = .nan true → ∀ r ∈ ops, r = invalid) ∧
    (x = .nan true → fpSqrt c f fmt a = invalid) ∧
    (c.qnan = .default → x = .nan false → fpSqrt c f fmt a = (defaultQNaN fmt, condNone)) ∧
    (c.qnan = .default → x = .nan false → y ≠ .nan true →
      ∀ r ∈ ops, r = (defaultQNaN fmt, condNone)) ∧
    (c.qnan = .default → y = .nan false → x ≠ .nan true →
      ∀ r ∈ ops, r = (defaultQNaN fmt, condNone)) ∧
    (∀ s t, x = .inf s → y = .inf t →
      fpAdd c f fmt a b = (if s = t then (fpInf fmt s, condNone) else invalid) ∧
      fpSub c f fmt a b = (if s = t then invalid else (fpInf fmt s, condNone)) ∧
      fpMul c f fmt a b = (fpInf fmt (s ^^ t), condNone) ∧ fpDiv c f fmt a b = invalid) ∧
    (∀ s, x = .inf s → y.isFinite = true →
      fpAdd c f fmt a b = (fpInf fmt s, condNone) ∧ fpSub c f fmt a b = (fpInf fmt s, condNone) ∧
      fpMul c f fmt a b =
        (if y.toRat = 0 then invalid else (fpInf fmt (s ^^ signBit fmt b), condNone)) ∧
      fpDiv c f fmt a b = (fpInf fmt (s ^^ signBit fmt b), condNone)) ∧
    (∀ t, x.isFinite = true → y = .inf t →
      fpAdd c f fmt a b = (fpInf fmt t, condNone) ∧ fpSub c f fmt a b = (fpInf fmt (!t), condNone) ∧
      fpMul c f fmt a b =
        (if x.toRat = 0 then invalid else (fpInf fmt (signBit fmt a ^^ t), condNone)) ∧
      fpDiv c f fmt a b = (fpZero fmt (signBit fmt a ^^ t), condNone)) ∧
    (x.isFinite = true → y.isFinite = true → y.toRat = 0 →
      fpDiv c f fmt a b =
        if x.toRat = 0 then invalid else (fpInf fmt (signBit fmt a ^^ signBit fmt b), condZ)) ∧
    (x.isFinite = true → y.isFinite = true → x.toRat = 0 → y.toRat ≠ 0 →
      fpDiv c f fmt a b = (fpZero fmt (signBit fmt a ^^ signBit fmt b), condNone)) ∧
    (x.isFinite = true → x.toRat < 0 → fpSqrt c f fmt a = invalid) ∧
    (x = .inf false → fpSqrt c f fmt a = (fpInf fmt false, condNone)) ∧
    (x = .inf true → fpSqrt c f fmt a = invalid) ∧
    (x.isFinite = true → x.toRat = 0 → fpSqrt c f fmt a = (fpZero fmt (signBit fmt a), condNone))

/-- The delivered result of an overflow (44_fpu_model.md R446, R450): when the exact result, of magnitude
`mant * 2 ^ exp` or with `rest` a little more, in the binade of `2 ^ b`, is 2^(E_max + 1) or more once it is
rounded to the precision of the format, Overflow and Inexact are raised; the result is infinity to nearest,
the largest finite number toward zero, and one or the other, by its sign, toward an infinity. A magnitude
of 2^(E_max + 1) or more overflows in every rounding mode. -/
def Obligations.OverflowResults : Prop :=
  ∀ (c : Config) (f : BitVec 32) (fmt : Fmt) (neg : Bool) (mant : Nat) (exp b : Int) (rest : Bool)
    (n : Nat) (inexact : Bool), fmt = .s ∨ fmt = .d →
    (rest = true → 2 ^ (fmtPrec fmt + 1) ≤ mant) →
    (2 : ℚ) ^ b ≤ mant * (2 : ℚ) ^ exp → mant * (2 : ℚ) ^ exp < (2 : ℚ) ^ (b + 1) →
    roundAt (fcsrRm f) neg mant exp rest (b - (fmtPrec fmt - 1)) = (n, inexact) →
    (2 : ℚ) ^ (fmtEmax fmt + 1) ≤ (mant : ℚ) * (2 : ℚ) ^ exp ∨
      (2 : ℚ) ^ (fmtEmax fmt + 1) ≤ (n : ℚ) * (2 : ℚ) ^ (b - (fmtPrec fmt - 1)) →
    ∃ big, roundValue c f fmt neg mant exp rest = (big, 0b000101#6) ∧
      (fcsrRm f = 0 → big = fpInf fmt neg) ∧
      (fcsrRm f = 1 → big = fpMaxFinite fmt neg) ∧
      (fcsrRm f = 2 → big = if neg then fpMaxFinite fmt true else fpInf fmt false) ∧
      (fcsrRm f = 3 → big = if neg then fpInf fmt true else fpMaxFinite fmt false)

/-- The outcome of a comparison (46_fpu_arith.md R514): its condition is the chosen union of less, equal
and unordered; it raises V just on a signaling NaN, or on any NaN when bit 3 of the condition is set.
Finite numbers compare by their values, so -0 = +0, and the infinities lie beyond them. -/
def Obligations.CompareOutcomes : Prop :=
  ∀ (cond : BitVec 4) (fmt : Fmt) (a b : Word),
    let x := decodeNum fmt a
    let y := decodeNum fmt b
    let outcome (less equal unordered : Prop) (v : Prop) :=
      ((fpCompare cond fmt a b).1 = true ↔
        (cond.getLsbD 2 = true ∧ less) ∨ (cond.getLsbD 1 = true ∧ equal) ∨
          (cond.getLsbD 0 = true ∧ unordered)) ∧
      ((fpCompare cond fmt a b).2 = condV ∧ v ∨ (fpCompare cond fmt a b).2 = condNone ∧ ¬v)
    (x.isNaN = true ∨ y.isNaN = true →
      outcome False False True (x = .nan true ∨ y = .nan true ∨ cond.getLsbD 3 = true)) ∧
    (x.isFinite = true → y.isFinite = true →
      outcome (x.toRat < y.toRat) (x.toRat = y.toRat) False False) ∧
    (∀ s, x = .inf s → y.isFinite = true → outcome (s = true) False False False) ∧
    (∀ t, x.isFinite = true → y = .inf t → outcome (t = false) False False False) ∧
    ∀ s t, x = .inf s → y = .inf t → outcome (s = true ∧ t = false) (s = t) False False

/-- Conversion to fixed point (44_fpu_model.md R460): a finite number gives the integer its magnitude
rounds to, with Inexact when that is not the number itself; out of range, or for a NaN or infinity, the
result is the largest integer, with V. -/
def Obligations.FixedPointConversion : Prop :=
  ∀ (rm : BitVec 2) (src dst : Fmt) (a : Word), src = .s ∨ src = .d → dst = .w ∨ dst = .l →
    ((decodeNum src a).isFinite = false → fpToFixed rm src dst a = (defaultQNaN dst, condV)) ∧
    ∀ neg mant exp n inexact, decodeNum src a = .fin neg mant exp →
      roundAt rm neg mant exp false 0 = (n, inexact) →
      let v : Int := if neg then -n else n
      if -(2 ^ (fmtPrec dst - 1)) ≤ v ∧ v ≤ 2 ^ (fmtPrec dst - 1) - 1 then
        fixedValue dst (fpToFixed rm src dst a).1 = v ∧
          (fpToFixed rm src dst a).2 = (if inexact then condI else condNone)
      else fpToFixed rm src dst a = (defaultQNaN dst, condV)
end

