-- ==== Sys2Proof/Laws/Encoding.lean ====
section
/-! SUPPORT. What the fields of an encoded word are: the form an instruction is encoded in gives back
the opcode and the fields it was built of (30_encoding.md R131 to R134). -/

namespace Sys2Proof

@[simp] theorem opF_iForm (op : BitVec 6) (a : BitVec 5) (b : BitVec 5) (imm : BitVec 16) :
    opF (iForm op a b imm) = op := by
  ext i hi
  simp only [opF, iForm, BitVec.getElem_extractLsb', BitVec.getLsbD_append]
  interval_cases i <;> simp
@[simp] theorem rsF_iForm (op : BitVec 6) (a : BitVec 5) (b : BitVec 5) (imm : BitVec 16) :
    rsF (iForm op a b imm) = a := by
  ext i hi
  simp only [rsF, iForm, BitVec.getElem_extractLsb', BitVec.getLsbD_append]
  interval_cases i <;> simp
@[simp] theorem rtF_iForm (op : BitVec 6) (a : BitVec 5) (b : BitVec 5) (imm : BitVec 16) :
    rtF (iForm op a b imm) = b := by
  ext i hi
  simp only [rtF, iForm, BitVec.getElem_extractLsb', BitVec.getLsbD_append]
  interval_cases i <;> simp
@[simp] theorem immF_iForm (op : BitVec 6) (a : BitVec 5) (b : BitVec 5) (imm : BitVec 16) :
    immF (iForm op a b imm) = imm := by
  ext i hi
  simp only [immF, iForm, BitVec.getElem_extractLsb', BitVec.getLsbD_append]
  interval_cases i <;> simp

@[simp] theorem opF_rForm (op : BitVec 6) (a : BitVec 5) (b : BitVec 5) (c : BitVec 5) (d : BitVec 5) (fn : BitVec 6) :
    opF (rForm op a b c d fn) = op := by
  ext i hi
  simp only [opF, rForm, BitVec.getElem_extractLsb', BitVec.getLsbD_append]
  interval_cases i <;> simp
@[simp] theorem rsF_rForm (op : BitVec 6) (a : BitVec 5) (b : BitVec 5) (c : BitVec 5) (d : BitVec 5) (fn : BitVec 6) :
    rsF (rForm op a b c d fn) = a := by
  ext i hi
  simp only [rsF, rForm, BitVec.getElem_extractLsb', BitVec.getLsbD_append]
  interval_cases i <;> simp
@[simp] theorem rtF_rForm (op : BitVec 6) (a : BitVec 5) (b : BitVec 5) (c : BitVec 5) (d : BitVec 5) (fn : BitVec 6) :
    rtF (rForm op a b c d fn) = b := by
  ext i hi
  simp only [rtF, rForm, BitVec.getElem_extractLsb', BitVec.getLsbD_append]
  interval_cases i <;> simp
@[simp] theorem rdF_rForm (op : BitVec 6) (a : BitVec 5) (b : BitVec 5) (c : BitVec 5) (d : BitVec 5) (fn : BitVec 6) :
    rdF (rForm op a b c d fn) = c := by
  ext i hi
  simp only [rdF, rForm, BitVec.getElem_extractLsb', BitVec.getLsbD_append]
  interval_cases i <;> simp
@[simp] theorem saF_rForm (op : BitVec 6) (a : BitVec 5) (b : BitVec 5) (c : BitVec 5) (d : BitVec 5) (fn : BitVec 6) :
    saF (rForm op a b c d fn) = d := by
  ext i hi
  simp only [saF, rForm, BitVec.getElem_extractLsb', BitVec.getLsbD_append]
  interval_cases i <;> simp
@[simp] theorem fnF_rForm (op : BitVec 6) (a : BitVec 5) (b : BitVec 5) (c : BitVec 5) (d : BitVec 5) (fn : BitVec 6) :
    fnF (rForm op a b c d fn) = fn := by
  ext i hi
  simp only [fnF, rForm, BitVec.getElem_extractLsb', BitVec.getLsbD_append]
  interval_cases i <;> simp

@[simp] theorem opF_jForm (op : BitVec 6) (target : BitVec 26) :
    opF (jForm op target) = op := by
  ext i hi
  simp only [opF, jForm, BitVec.getElem_extractLsb', BitVec.getLsbD_append]
  interval_cases i <;> simp
@[simp] theorem indexF_jForm (op : BitVec 6) (target : BitVec 26) :
    indexF (jForm op target) = target := by
  ext i hi
  simp only [indexF, jForm, BitVec.getElem_extractLsb', BitVec.getLsbD_append]
  interval_cases i <;> simp

@[simp] theorem opF_cForm (op : BitVec 6) (code : BitVec 20) (fn : BitVec 6) :
    opF (cForm op code fn) = op := by
  ext i hi
  simp only [opF, cForm, BitVec.getElem_extractLsb', BitVec.getLsbD_append]
  interval_cases i <;> simp
@[simp] theorem code20F_cForm (op : BitVec 6) (code : BitVec 20) (fn : BitVec 6) :
    code20F (cForm op code fn) = code := by
  ext i hi
  simp only [code20F, cForm, BitVec.getElem_extractLsb', BitVec.getLsbD_append]
  interval_cases i <;> simp
@[simp] theorem fnF_cForm (op : BitVec 6) (code : BitVec 20) (fn : BitVec 6) :
    fnF (cForm op code fn) = fn := by
  ext i hi
  simp only [fnF, cForm, BitVec.getElem_extractLsb', BitVec.getLsbD_append]
  interval_cases i <;> simp

@[simp] theorem opF_tForm (op : BitVec 6) (a : BitVec 5) (b : BitVec 5) (code : BitVec 10) (fn : BitVec 6) :
    opF (tForm op a b code fn) = op := by
  ext i hi
  simp only [opF, tForm, BitVec.getElem_extractLsb', BitVec.getLsbD_append]
  interval_cases i <;> simp
@[simp] theorem rsF_tForm (op : BitVec 6) (a : BitVec 5) (b : BitVec 5) (code : BitVec 10) (fn : BitVec 6) :
    rsF (tForm op a b code fn) = a := by
  ext i hi
  simp only [rsF, tForm, BitVec.getElem_extractLsb', BitVec.getLsbD_append]
  interval_cases i <;> simp
@[simp] theorem rtF_tForm (op : BitVec 6) (a : BitVec 5) (b : BitVec 5) (code : BitVec 10) (fn : BitVec 6) :
    rtF (tForm op a b code fn) = b := by
  ext i hi
  simp only [rtF, tForm, BitVec.getElem_extractLsb', BitVec.getLsbD_append]
  interval_cases i <;> simp
@[simp] theorem code10F_tForm (op : BitVec 6) (a : BitVec 5) (b : BitVec 5) (code : BitVec 10) (fn : BitVec 6) :
    code10F (tForm op a b code fn) = code := by
  ext i hi
  simp only [code10F, tForm, BitVec.getElem_extractLsb', BitVec.getLsbD_append]
  interval_cases i <;> simp
@[simp] theorem fnF_tForm (op : BitVec 6) (a : BitVec 5) (b : BitVec 5) (code : BitVec 10) (fn : BitVec 6) :
    fnF (tForm op a b code fn) = fn := by
  ext i hi
  simp only [fnF, tForm, BitVec.getElem_extractLsb', BitVec.getLsbD_append]
  interval_cases i <;> simp

end Sys2Proof
end

