-- ==== Sys2Proof/Laws/State.lean ====
section
/-! SUPPORT. One lemma per field of State per named update: what the update does to that field. Later
proofs cite these and unfold no record update. -/

namespace Sys2Proof.Machine

open Sys2Proof

variable (s : State)

/-! ### `State.putX` -/

@[simp] theorem State.putX_cfg (r : RegNum) (c : Reg) :
    (s.putX r c).cfg = s.cfg := by unfold State.putX; split <;> rfl
@[simp] theorem State.putX_gpr (r : RegNum) (c : Reg) :
    (s.putX r c).gpr =
      if r = 0 then s.gpr else s.gpr.set r.toNat c := by unfold State.putX; split <;> rfl
@[simp] theorem State.putX_hi (r : RegNum) (c : Reg) :
    (s.putX r c).hi = s.hi := by unfold State.putX; split <;> rfl
@[simp] theorem State.putX_lo (r : RegNum) (c : Reg) :
    (s.putX r c).lo = s.lo := by unfold State.putX; split <;> rfl
@[simp] theorem State.putX_hiRd (r : RegNum) (c : Reg) :
    (s.putX r c).hiRd = s.hiRd := by unfold State.putX; split <;> rfl
@[simp] theorem State.putX_loRd (r : RegNum) (c : Reg) :
    (s.putX r c).loRd = s.loRd := by unfold State.putX; split <;> rfl
@[simp] theorem State.putX_pc (r : RegNum) (c : Reg) :
    (s.putX r c).pc = s.pc := by unfold State.putX; split <;> rfl
@[simp] theorem State.putX_npc (r : RegNum) (c : Reg) :
    (s.putX r c).npc = s.npc := by unfold State.putX; split <;> rfl
@[simp] theorem State.putX_bd (r : RegNum) (c : Reg) :
    (s.putX r c).bd = s.bd := by unfold State.putX; split <;> rfl
@[simp] theorem State.putX_llBit (r : RegNum) (c : Reg) :
    (s.putX r c).llBit = s.llBit := by unfold State.putX; split <;> rfl
@[simp] theorem State.putX_llAddr (r : RegNum) (c : Reg) :
    (s.putX r c).llAddr = s.llAddr := by unfold State.putX; split <;> rfl
@[simp] theorem State.putX_fgr (r : RegNum) (c : Reg) :
    (s.putX r c).fgr = s.fgr := by unfold State.putX; split <;> rfl
@[simp] theorem State.putX_tags (r : RegNum) (c : Reg) :
    (s.putX r c).tags = s.tags := by unfold State.putX; split <;> rfl
@[simp] theorem State.putX_fcsr (r : RegNum) (c : Reg) :
    (s.putX r c).fcsr = s.fcsr := by unfold State.putX; split <;> rfl
@[simp] theorem State.putX_mem (r : RegNum) (c : Reg) :
    (s.putX r c).mem = s.mem := by unfold State.putX; split <;> rfl
@[simp] theorem State.putX_stored (r : RegNum) (c : Reg) :
    (s.putX r c).stored = s.stored := by unfold State.putX; split <;> rfl
@[simp] theorem State.putX_undefMem (r : RegNum) (c : Reg) :
    (s.putX r c).undefMem = s.undefMem := by unfold State.putX; split <;> rfl
@[simp] theorem State.putX_trap (r : RegNum) (c : Reg) :
    (s.putX r c).trap = s.trap := by unfold State.putX; split <;> rfl
@[simp] theorem State.putX_intPending (r : RegNum) (c : Reg) :
    (s.putX r c).intPending = s.intPending := by unfold State.putX; split <;> rfl
@[simp] theorem State.putX_draws (r : RegNum) (c : Reg) :
    (s.putX r c).draws = s.draws := by unfold State.putX; split <;> rfl

/-! ### `State.setX` -/

@[simp] theorem State.setX_cfg (r : RegNum) (v : Word) :
    (s.setX r v).cfg = s.cfg := by simp [State.setX]
@[simp] theorem State.setX_gpr (r : RegNum) (v : Word) :
    (s.setX r v).gpr = if r = 0 then s.gpr else s.gpr.set r.toNat (Reg.of v) := by simp [State.setX]
@[simp] theorem State.setX_hi (r : RegNum) (v : Word) :
    (s.setX r v).hi = s.hi := by simp [State.setX]
@[simp] theorem State.setX_lo (r : RegNum) (v : Word) :
    (s.setX r v).lo = s.lo := by simp [State.setX]
@[simp] theorem State.setX_hiRd (r : RegNum) (v : Word) :
    (s.setX r v).hiRd = s.hiRd := by simp [State.setX]
@[simp] theorem State.setX_loRd (r : RegNum) (v : Word) :
    (s.setX r v).loRd = s.loRd := by simp [State.setX]
@[simp] theorem State.setX_pc (r : RegNum) (v : Word) :
    (s.setX r v).pc = s.pc := by simp [State.setX]
@[simp] theorem State.setX_npc (r : RegNum) (v : Word) :
    (s.setX r v).npc = s.npc := by simp [State.setX]
@[simp] theorem State.setX_bd (r : RegNum) (v : Word) :
    (s.setX r v).bd = s.bd := by simp [State.setX]
@[simp] theorem State.setX_llBit (r : RegNum) (v : Word) :
    (s.setX r v).llBit = s.llBit := by simp [State.setX]
@[simp] theorem State.setX_llAddr (r : RegNum) (v : Word) :
    (s.setX r v).llAddr = s.llAddr := by simp [State.setX]
@[simp] theorem State.setX_fgr (r : RegNum) (v : Word) :
    (s.setX r v).fgr = s.fgr := by simp [State.setX]
@[simp] theorem State.setX_tags (r : RegNum) (v : Word) :
    (s.setX r v).tags = s.tags := by simp [State.setX]
@[simp] theorem State.setX_fcsr (r : RegNum) (v : Word) :
    (s.setX r v).fcsr = s.fcsr := by simp [State.setX]
@[simp] theorem State.setX_mem (r : RegNum) (v : Word) :
    (s.setX r v).mem = s.mem := by simp [State.setX]
@[simp] theorem State.setX_stored (r : RegNum) (v : Word) :
    (s.setX r v).stored = s.stored := by simp [State.setX]
@[simp] theorem State.setX_undefMem (r : RegNum) (v : Word) :
    (s.setX r v).undefMem = s.undefMem := by simp [State.setX]
@[simp] theorem State.setX_trap (r : RegNum) (v : Word) :
    (s.setX r v).trap = s.trap := by simp [State.setX]
@[simp] theorem State.setX_intPending (r : RegNum) (v : Word) :
    (s.setX r v).intPending = s.intPending := by simp [State.setX]
@[simp] theorem State.setX_draws (r : RegNum) (v : Word) :
    (s.setX r v).draws = s.draws := by simp [State.setX]

/-! ### `State.undefX` -/

@[simp] theorem State.undefX_cfg (r : RegNum) : (s.undefX r).cfg = s.cfg := by simp [State.undefX]
@[simp] theorem State.undefX_gpr (r : RegNum) :
    (s.undefX r).gpr =
      if r = 0 then s.gpr else s.gpr.set r.toNat Reg.unknown := by simp [State.undefX]
@[simp] theorem State.undefX_hi (r : RegNum) : (s.undefX r).hi = s.hi := by simp [State.undefX]
@[simp] theorem State.undefX_lo (r : RegNum) : (s.undefX r).lo = s.lo := by simp [State.undefX]
@[simp] theorem State.undefX_hiRd (r : RegNum) :
    (s.undefX r).hiRd = s.hiRd := by simp [State.undefX]
@[simp] theorem State.undefX_loRd (r : RegNum) :
    (s.undefX r).loRd = s.loRd := by simp [State.undefX]
@[simp] theorem State.undefX_pc (r : RegNum) : (s.undefX r).pc = s.pc := by simp [State.undefX]
@[simp] theorem State.undefX_npc (r : RegNum) : (s.undefX r).npc = s.npc := by simp [State.undefX]
@[simp] theorem State.undefX_bd (r : RegNum) : (s.undefX r).bd = s.bd := by simp [State.undefX]
@[simp] theorem State.undefX_llBit (r : RegNum) :
    (s.undefX r).llBit = s.llBit := by simp [State.undefX]
@[simp] theorem State.undefX_llAddr (r : RegNum) :
    (s.undefX r).llAddr = s.llAddr := by simp [State.undefX]
@[simp] theorem State.undefX_fgr (r : RegNum) : (s.undefX r).fgr = s.fgr := by simp [State.undefX]
@[simp] theorem State.undefX_tags (r : RegNum) :
    (s.undefX r).tags = s.tags := by simp [State.undefX]
@[simp] theorem State.undefX_fcsr (r : RegNum) :
    (s.undefX r).fcsr = s.fcsr := by simp [State.undefX]
@[simp] theorem State.undefX_mem (r : RegNum) : (s.undefX r).mem = s.mem := by simp [State.undefX]
@[simp] theorem State.undefX_stored (r : RegNum) :
    (s.undefX r).stored = s.stored := by simp [State.undefX]
@[simp] theorem State.undefX_undefMem (r : RegNum) :
    (s.undefX r).undefMem = s.undefMem := by simp [State.undefX]
@[simp] theorem State.undefX_trap (r : RegNum) :
    (s.undefX r).trap = s.trap := by simp [State.undefX]
@[simp] theorem State.undefX_intPending (r : RegNum) :
    (s.undefX r).intPending = s.intPending := by simp [State.undefX]
@[simp] theorem State.undefX_draws (r : RegNum) :
    (s.undefX r).draws = s.draws := by simp [State.undefX]

/-! ### `State.link` -/

@[simp] theorem State.link_cfg (r : RegNum) : (s.link r).cfg = s.cfg := by simp [State.link]
@[simp] theorem State.link_gpr (r : RegNum) :
    (s.link r).gpr =
      if r = 0 then s.gpr else s.gpr.set r.toNat (Reg.of (s.pc + 8)) := by simp [State.link]
@[simp] theorem State.link_hi (r : RegNum) : (s.link r).hi = s.hi := by simp [State.link]
@[simp] theorem State.link_lo (r : RegNum) : (s.link r).lo = s.lo := by simp [State.link]
@[simp] theorem State.link_hiRd (r : RegNum) : (s.link r).hiRd = s.hiRd := by simp [State.link]
@[simp] theorem State.link_loRd (r : RegNum) : (s.link r).loRd = s.loRd := by simp [State.link]
@[simp] theorem State.link_pc (r : RegNum) : (s.link r).pc = s.pc := by simp [State.link]
@[simp] theorem State.link_npc (r : RegNum) : (s.link r).npc = s.npc := by simp [State.link]
@[simp] theorem State.link_bd (r : RegNum) : (s.link r).bd = s.bd := by simp [State.link]
@[simp] theorem State.link_llBit (r : RegNum) : (s.link r).llBit = s.llBit := by simp [State.link]
@[simp] theorem State.link_llAddr (r : RegNum) :
    (s.link r).llAddr = s.llAddr := by simp [State.link]
@[simp] theorem State.link_fgr (r : RegNum) : (s.link r).fgr = s.fgr := by simp [State.link]
@[simp] theorem State.link_tags (r : RegNum) : (s.link r).tags = s.tags := by simp [State.link]
@[simp] theorem State.link_fcsr (r : RegNum) : (s.link r).fcsr = s.fcsr := by simp [State.link]
@[simp] theorem State.link_mem (r : RegNum) : (s.link r).mem = s.mem := by simp [State.link]
@[simp] theorem State.link_stored (r : RegNum) :
    (s.link r).stored = s.stored := by simp [State.link]
@[simp] theorem State.link_undefMem (r : RegNum) :
    (s.link r).undefMem = s.undefMem := by simp [State.link]
@[simp] theorem State.link_trap (r : RegNum) : (s.link r).trap = s.trap := by simp [State.link]
@[simp] theorem State.link_intPending (r : RegNum) :
    (s.link r).intPending = s.intPending := by simp [State.link]
@[simp] theorem State.link_draws (r : RegNum) : (s.link r).draws = s.draws := by simp [State.link]

/-! ### `State.putHiLo` -/

@[simp] theorem State.putHiLo_cfg (h l : Reg) : (s.putHiLo h l).cfg = s.cfg := rfl
@[simp] theorem State.putHiLo_gpr (h l : Reg) : (s.putHiLo h l).gpr = s.gpr := rfl
@[simp] theorem State.putHiLo_hi (h l : Reg) : (s.putHiLo h l).hi = h := rfl
@[simp] theorem State.putHiLo_lo (h l : Reg) : (s.putHiLo h l).lo = l := rfl
@[simp] theorem State.putHiLo_hiRd (h l : Reg) : (s.putHiLo h l).hiRd = s.hiRd := rfl
@[simp] theorem State.putHiLo_loRd (h l : Reg) : (s.putHiLo h l).loRd = s.loRd := rfl
@[simp] theorem State.putHiLo_pc (h l : Reg) : (s.putHiLo h l).pc = s.pc := rfl
@[simp] theorem State.putHiLo_npc (h l : Reg) : (s.putHiLo h l).npc = s.npc := rfl
@[simp] theorem State.putHiLo_bd (h l : Reg) : (s.putHiLo h l).bd = s.bd := rfl
@[simp] theorem State.putHiLo_llBit (h l : Reg) : (s.putHiLo h l).llBit = s.llBit := rfl
@[simp] theorem State.putHiLo_llAddr (h l : Reg) : (s.putHiLo h l).llAddr = s.llAddr := rfl
@[simp] theorem State.putHiLo_fgr (h l : Reg) : (s.putHiLo h l).fgr = s.fgr := rfl
@[simp] theorem State.putHiLo_tags (h l : Reg) : (s.putHiLo h l).tags = s.tags := rfl
@[simp] theorem State.putHiLo_fcsr (h l : Reg) : (s.putHiLo h l).fcsr = s.fcsr := rfl
@[simp] theorem State.putHiLo_mem (h l : Reg) : (s.putHiLo h l).mem = s.mem := rfl
@[simp] theorem State.putHiLo_stored (h l : Reg) : (s.putHiLo h l).stored = s.stored := rfl
@[simp] theorem State.putHiLo_undefMem (h l : Reg) : (s.putHiLo h l).undefMem = s.undefMem := rfl
@[simp] theorem State.putHiLo_trap (h l : Reg) : (s.putHiLo h l).trap = s.trap := rfl
@[simp] theorem State.putHiLo_intPending (h l : Reg) :
    (s.putHiLo h l).intPending = s.intPending := rfl
@[simp] theorem State.putHiLo_draws (h l : Reg) : (s.putHiLo h l).draws = s.draws := rfl

/-! ### `State.age` -/

@[simp] theorem State.age_cfg : (s.age).cfg = s.cfg := rfl
@[simp] theorem State.age_gpr : (s.age).gpr = s.gpr := rfl
@[simp] theorem State.age_hi : (s.age).hi = s.hi := rfl
@[simp] theorem State.age_lo : (s.age).lo = s.lo := rfl
@[simp] theorem State.age_hiRd : (s.age).hiRd = s.hiRd.older := rfl
@[simp] theorem State.age_loRd : (s.age).loRd = s.loRd.older := rfl
@[simp] theorem State.age_pc : (s.age).pc = s.pc := rfl
@[simp] theorem State.age_npc : (s.age).npc = s.npc := rfl
@[simp] theorem State.age_bd : (s.age).bd = s.bd := rfl
@[simp] theorem State.age_llBit : (s.age).llBit = s.llBit := rfl
@[simp] theorem State.age_llAddr : (s.age).llAddr = s.llAddr := rfl
@[simp] theorem State.age_fgr : (s.age).fgr = s.fgr := rfl
@[simp] theorem State.age_tags : (s.age).tags = s.tags := rfl
@[simp] theorem State.age_fcsr : (s.age).fcsr = s.fcsr := rfl
@[simp] theorem State.age_mem : (s.age).mem = s.mem := rfl
@[simp] theorem State.age_stored : (s.age).stored = s.stored := rfl
@[simp] theorem State.age_undefMem : (s.age).undefMem = s.undefMem := rfl
@[simp] theorem State.age_trap : (s.age).trap = s.trap := rfl
@[simp] theorem State.age_intPending : (s.age).intPending = s.intPending := rfl
@[simp] theorem State.age_draws : (s.age).draws = s.draws + 1 := rfl

/-! ### `State.complete` -/

@[simp] theorem State.complete_cfg : (s.complete).cfg = s.cfg := rfl
@[simp] theorem State.complete_gpr : (s.complete).gpr = s.gpr := rfl
@[simp] theorem State.complete_hi : (s.complete).hi = s.hi := rfl
@[simp] theorem State.complete_lo : (s.complete).lo = s.lo := rfl
@[simp] theorem State.complete_hiRd : (s.complete).hiRd = s.hiRd.older := rfl
@[simp] theorem State.complete_loRd : (s.complete).loRd = s.loRd.older := rfl
@[simp] theorem State.complete_pc : (s.complete).pc = s.npc := rfl
@[simp] theorem State.complete_npc : (s.complete).npc = s.npc + 4 := rfl
@[simp] theorem State.complete_bd : (s.complete).bd = false := rfl
@[simp] theorem State.complete_llBit : (s.complete).llBit = s.llBit := rfl
@[simp] theorem State.complete_llAddr : (s.complete).llAddr = s.llAddr := rfl
@[simp] theorem State.complete_fgr : (s.complete).fgr = s.fgr := rfl
@[simp] theorem State.complete_tags : (s.complete).tags = s.tags := rfl
@[simp] theorem State.complete_fcsr : (s.complete).fcsr = s.fcsr := rfl
@[simp] theorem State.complete_mem : (s.complete).mem = s.mem := rfl
@[simp] theorem State.complete_stored : (s.complete).stored = s.stored := rfl
@[simp] theorem State.complete_undefMem : (s.complete).undefMem = s.undefMem := rfl
@[simp] theorem State.complete_trap : (s.complete).trap = s.trap := rfl
@[simp] theorem State.complete_intPending : (s.complete).intPending = s.intPending := rfl
@[simp] theorem State.complete_draws : (s.complete).draws = s.draws + 1 := rfl

/-! ### `State.jumpTo` -/

@[simp] theorem State.jumpTo_cfg (b : Bool) (a : Word) : (s.jumpTo b a).cfg = s.cfg := rfl
@[simp] theorem State.jumpTo_gpr (b : Bool) (a : Word) : (s.jumpTo b a).gpr = s.gpr := rfl
@[simp] theorem State.jumpTo_hi (b : Bool) (a : Word) : (s.jumpTo b a).hi = s.hi := rfl
@[simp] theorem State.jumpTo_lo (b : Bool) (a : Word) : (s.jumpTo b a).lo = s.lo := rfl
@[simp] theorem State.jumpTo_hiRd (b : Bool) (a : Word) : (s.jumpTo b a).hiRd = s.hiRd.older := rfl
@[simp] theorem State.jumpTo_loRd (b : Bool) (a : Word) : (s.jumpTo b a).loRd = s.loRd.older := rfl
@[simp] theorem State.jumpTo_pc (b : Bool) (a : Word) : (s.jumpTo b a).pc = s.npc := rfl
@[simp] theorem State.jumpTo_npc (b : Bool) (a : Word) :
    (s.jumpTo b a).npc = if b then a else s.npc + 4 := rfl
@[simp] theorem State.jumpTo_bd (b : Bool) (a : Word) : (s.jumpTo b a).bd = true := rfl
@[simp] theorem State.jumpTo_llBit (b : Bool) (a : Word) : (s.jumpTo b a).llBit = s.llBit := rfl
@[simp] theorem State.jumpTo_llAddr (b : Bool) (a : Word) : (s.jumpTo b a).llAddr = s.llAddr := rfl
@[simp] theorem State.jumpTo_fgr (b : Bool) (a : Word) : (s.jumpTo b a).fgr = s.fgr := rfl
@[simp] theorem State.jumpTo_tags (b : Bool) (a : Word) : (s.jumpTo b a).tags = s.tags := rfl
@[simp] theorem State.jumpTo_fcsr (b : Bool) (a : Word) : (s.jumpTo b a).fcsr = s.fcsr := rfl
@[simp] theorem State.jumpTo_mem (b : Bool) (a : Word) : (s.jumpTo b a).mem = s.mem := rfl
@[simp] theorem State.jumpTo_stored (b : Bool) (a : Word) : (s.jumpTo b a).stored = s.stored := rfl
@[simp] theorem State.jumpTo_undefMem (b : Bool) (a : Word) :
    (s.jumpTo b a).undefMem = s.undefMem := rfl
@[simp] theorem State.jumpTo_trap (b : Bool) (a : Word) : (s.jumpTo b a).trap = s.trap := rfl
@[simp] theorem State.jumpTo_intPending (b : Bool) (a : Word) :
    (s.jumpTo b a).intPending = s.intPending := rfl
@[simp] theorem State.jumpTo_draws (b : Bool) (a : Word) : (s.jumpTo b a).draws = s.draws + 1 := rfl

/-! ### `State.jumpLikely` -/

@[simp] theorem State.jumpLikely_cfg (b : Bool) (a : Word) :
    (s.jumpLikely b a).cfg = s.cfg := by cases b <;> rfl
@[simp] theorem State.jumpLikely_gpr (b : Bool) (a : Word) :
    (s.jumpLikely b a).gpr = s.gpr := by cases b <;> rfl
@[simp] theorem State.jumpLikely_hi (b : Bool) (a : Word) :
    (s.jumpLikely b a).hi = s.hi := by cases b <;> rfl
@[simp] theorem State.jumpLikely_lo (b : Bool) (a : Word) :
    (s.jumpLikely b a).lo = s.lo := by cases b <;> rfl
@[simp] theorem State.jumpLikely_hiRd (b : Bool) (a : Word) :
    (s.jumpLikely b a).hiRd = s.hiRd.older := by cases b <;> rfl
@[simp] theorem State.jumpLikely_loRd (b : Bool) (a : Word) :
    (s.jumpLikely b a).loRd = s.loRd.older := by cases b <;> rfl
@[simp] theorem State.jumpLikely_pc (b : Bool) (a : Word) :
    (s.jumpLikely b a).pc = if b then s.npc else s.npc + 4 := by cases b <;> rfl
@[simp] theorem State.jumpLikely_npc (b : Bool) (a : Word) :
    (s.jumpLikely b a).npc = if b then a else s.npc + 8 := by cases b <;> rfl
@[simp] theorem State.jumpLikely_bd (b : Bool) (a : Word) :
    (s.jumpLikely b a).bd = b := by cases b <;> rfl
@[simp] theorem State.jumpLikely_llBit (b : Bool) (a : Word) :
    (s.jumpLikely b a).llBit = s.llBit := by cases b <;> rfl
@[simp] theorem State.jumpLikely_llAddr (b : Bool) (a : Word) :
    (s.jumpLikely b a).llAddr = s.llAddr := by cases b <;> rfl
@[simp] theorem State.jumpLikely_fgr (b : Bool) (a : Word) :
    (s.jumpLikely b a).fgr = s.fgr := by cases b <;> rfl
@[simp] theorem State.jumpLikely_tags (b : Bool) (a : Word) :
    (s.jumpLikely b a).tags = s.tags := by cases b <;> rfl
@[simp] theorem State.jumpLikely_fcsr (b : Bool) (a : Word) :
    (s.jumpLikely b a).fcsr = s.fcsr := by cases b <;> rfl
@[simp] theorem State.jumpLikely_mem (b : Bool) (a : Word) :
    (s.jumpLikely b a).mem = s.mem := by cases b <;> rfl
@[simp] theorem State.jumpLikely_stored (b : Bool) (a : Word) :
    (s.jumpLikely b a).stored = s.stored := by cases b <;> rfl
@[simp] theorem State.jumpLikely_undefMem (b : Bool) (a : Word) :
    (s.jumpLikely b a).undefMem = s.undefMem := by cases b <;> rfl
@[simp] theorem State.jumpLikely_trap (b : Bool) (a : Word) :
    (s.jumpLikely b a).trap = s.trap := by cases b <;> rfl
@[simp] theorem State.jumpLikely_intPending (b : Bool) (a : Word) :
    (s.jumpLikely b a).intPending = s.intPending := by cases b <;> rfl
@[simp] theorem State.jumpLikely_draws (b : Bool) (a : Word) :
    (s.jumpLikely b a).draws = s.draws + 1 := by cases b <;> rfl

/-! ### `State.raise` -/

@[simp] theorem State.raise_cfg (e : Exc) : (s.raise e).cfg = s.cfg := rfl
@[simp] theorem State.raise_gpr (e : Exc) : (s.raise e).gpr = s.gpr := rfl
@[simp] theorem State.raise_hi (e : Exc) : (s.raise e).hi = s.hi := rfl
@[simp] theorem State.raise_lo (e : Exc) : (s.raise e).lo = s.lo := rfl
@[simp] theorem State.raise_hiRd (e : Exc) : (s.raise e).hiRd = .none := rfl
@[simp] theorem State.raise_loRd (e : Exc) : (s.raise e).loRd = .none := rfl
@[simp] theorem State.raise_pc (e : Exc) : (s.raise e).pc = s.pc := rfl
@[simp] theorem State.raise_npc (e : Exc) : (s.raise e).npc = s.npc := rfl
@[simp] theorem State.raise_bd (e : Exc) : (s.raise e).bd = s.bd := rfl
@[simp] theorem State.raise_llBit (e : Exc) : (s.raise e).llBit = false := rfl
@[simp] theorem State.raise_llAddr (e : Exc) : (s.raise e).llAddr = s.llAddr := rfl
@[simp] theorem State.raise_fgr (e : Exc) : (s.raise e).fgr = s.fgr := rfl
@[simp] theorem State.raise_tags (e : Exc) : (s.raise e).tags = s.tags := rfl
@[simp] theorem State.raise_fcsr (e : Exc) : (s.raise e).fcsr = s.fcsr := rfl
@[simp] theorem State.raise_mem (e : Exc) : (s.raise e).mem = s.mem := rfl
@[simp] theorem State.raise_stored (e : Exc) : (s.raise e).stored = s.stored := rfl
@[simp] theorem State.raise_undefMem (e : Exc) : (s.raise e).undefMem = s.undefMem := rfl
@[simp] theorem State.raise_trap (e : Exc) :
    (s.raise e).trap =
      some { kind := e, victimPc := s.pc, bd := s.bd, restartPc := if s.bd then s.pc - 4 else s.pc } := rfl
@[simp] theorem State.raise_intPending (e : Exc) : (s.raise e).intPending = s.intPending := rfl
@[simp] theorem State.raise_draws (e : Exc) : (s.raise e).draws = s.draws + 1 := rfl

/-! ### `State.writeCell` -/

@[simp] theorem State.writeCell_cfg (c : Nat × Byte) : (s.writeCell c).cfg = s.cfg := rfl
@[simp] theorem State.writeCell_gpr (c : Nat × Byte) : (s.writeCell c).gpr = s.gpr := rfl
@[simp] theorem State.writeCell_hi (c : Nat × Byte) : (s.writeCell c).hi = s.hi := rfl
@[simp] theorem State.writeCell_lo (c : Nat × Byte) : (s.writeCell c).lo = s.lo := rfl
@[simp] theorem State.writeCell_hiRd (c : Nat × Byte) : (s.writeCell c).hiRd = s.hiRd := rfl
@[simp] theorem State.writeCell_loRd (c : Nat × Byte) : (s.writeCell c).loRd = s.loRd := rfl
@[simp] theorem State.writeCell_pc (c : Nat × Byte) : (s.writeCell c).pc = s.pc := rfl
@[simp] theorem State.writeCell_npc (c : Nat × Byte) : (s.writeCell c).npc = s.npc := rfl
@[simp] theorem State.writeCell_bd (c : Nat × Byte) : (s.writeCell c).bd = s.bd := rfl
@[simp] theorem State.writeCell_llBit (c : Nat × Byte) : (s.writeCell c).llBit = s.llBit := rfl
@[simp] theorem State.writeCell_llAddr (c : Nat × Byte) : (s.writeCell c).llAddr = s.llAddr := rfl
@[simp] theorem State.writeCell_fgr (c : Nat × Byte) : (s.writeCell c).fgr = s.fgr := rfl
@[simp] theorem State.writeCell_tags (c : Nat × Byte) : (s.writeCell c).tags = s.tags := rfl
@[simp] theorem State.writeCell_fcsr (c : Nat × Byte) : (s.writeCell c).fcsr = s.fcsr := rfl
@[simp] theorem State.writeCell_mem (c : Nat × Byte) :
    (s.writeCell c).mem = s.mem.write c.1 c.2 := rfl
@[simp] theorem State.writeCell_stored (c : Nat × Byte) :
    (s.writeCell c).stored = insertAddr c.1 s.stored := rfl
@[simp] theorem State.writeCell_undefMem (c : Nat × Byte) :
    (s.writeCell c).undefMem = s.undefMem.filter (· != c.1) := rfl
@[simp] theorem State.writeCell_trap (c : Nat × Byte) : (s.writeCell c).trap = s.trap := rfl
@[simp] theorem State.writeCell_intPending (c : Nat × Byte) :
    (s.writeCell c).intPending = s.intPending := rfl
@[simp] theorem State.writeCell_draws (c : Nat × Byte) : (s.writeCell c).draws = s.draws := rfl

/-! ### `State.undefCell` -/

@[simp] theorem State.undefCell_cfg (a : Nat) : (s.undefCell a).cfg = s.cfg := rfl
@[simp] theorem State.undefCell_gpr (a : Nat) : (s.undefCell a).gpr = s.gpr := rfl
@[simp] theorem State.undefCell_hi (a : Nat) : (s.undefCell a).hi = s.hi := rfl
@[simp] theorem State.undefCell_lo (a : Nat) : (s.undefCell a).lo = s.lo := rfl
@[simp] theorem State.undefCell_hiRd (a : Nat) : (s.undefCell a).hiRd = s.hiRd := rfl
@[simp] theorem State.undefCell_loRd (a : Nat) : (s.undefCell a).loRd = s.loRd := rfl
@[simp] theorem State.undefCell_pc (a : Nat) : (s.undefCell a).pc = s.pc := rfl
@[simp] theorem State.undefCell_npc (a : Nat) : (s.undefCell a).npc = s.npc := rfl
@[simp] theorem State.undefCell_bd (a : Nat) : (s.undefCell a).bd = s.bd := rfl
@[simp] theorem State.undefCell_llBit (a : Nat) : (s.undefCell a).llBit = s.llBit := rfl
@[simp] theorem State.undefCell_llAddr (a : Nat) : (s.undefCell a).llAddr = s.llAddr := rfl
@[simp] theorem State.undefCell_fgr (a : Nat) : (s.undefCell a).fgr = s.fgr := rfl
@[simp] theorem State.undefCell_tags (a : Nat) : (s.undefCell a).tags = s.tags := rfl
@[simp] theorem State.undefCell_fcsr (a : Nat) : (s.undefCell a).fcsr = s.fcsr := rfl
@[simp] theorem State.undefCell_mem (a : Nat) :
    (s.undefCell a).mem = s.mem.write a Memory.unlisted := rfl
@[simp] theorem State.undefCell_stored (a : Nat) :
    (s.undefCell a).stored = insertAddr a s.stored := rfl
@[simp] theorem State.undefCell_undefMem (a : Nat) :
    (s.undefCell a).undefMem = insertAddr a s.undefMem := rfl
@[simp] theorem State.undefCell_trap (a : Nat) : (s.undefCell a).trap = s.trap := rfl
@[simp] theorem State.undefCell_intPending (a : Nat) :
    (s.undefCell a).intPending = s.intPending := rfl
@[simp] theorem State.undefCell_draws (a : Nat) : (s.undefCell a).draws = s.draws := rfl

/-! ### `State.undefCells` -/

@[simp] theorem State.undefCells_cfg (as : List Nat) :
    (s.undefCells as).cfg = s.cfg := by
  induction as generalizing s with
  | nil => rfl
  | cons a as ih => exact (ih (s := s.undefCell a)).trans rfl
@[simp] theorem State.undefCells_gpr (as : List Nat) :
    (s.undefCells as).gpr = s.gpr := by
  induction as generalizing s with
  | nil => rfl
  | cons a as ih => exact (ih (s := s.undefCell a)).trans rfl
@[simp] theorem State.undefCells_hi (as : List Nat) :
    (s.undefCells as).hi = s.hi := by
  induction as generalizing s with
  | nil => rfl
  | cons a as ih => exact (ih (s := s.undefCell a)).trans rfl
@[simp] theorem State.undefCells_lo (as : List Nat) :
    (s.undefCells as).lo = s.lo := by
  induction as generalizing s with
  | nil => rfl
  | cons a as ih => exact (ih (s := s.undefCell a)).trans rfl
@[simp] theorem State.undefCells_hiRd (as : List Nat) :
    (s.undefCells as).hiRd = s.hiRd := by
  induction as generalizing s with
  | nil => rfl
  | cons a as ih => exact (ih (s := s.undefCell a)).trans rfl
@[simp] theorem State.undefCells_loRd (as : List Nat) :
    (s.undefCells as).loRd = s.loRd := by
  induction as generalizing s with
  | nil => rfl
  | cons a as ih => exact (ih (s := s.undefCell a)).trans rfl
@[simp] theorem State.undefCells_pc (as : List Nat) :
    (s.undefCells as).pc = s.pc := by
  induction as generalizing s with
  | nil => rfl
  | cons a as ih => exact (ih (s := s.undefCell a)).trans rfl
@[simp] theorem State.undefCells_npc (as : List Nat) :
    (s.undefCells as).npc = s.npc := by
  induction as generalizing s with
  | nil => rfl
  | cons a as ih => exact (ih (s := s.undefCell a)).trans rfl
@[simp] theorem State.undefCells_bd (as : List Nat) :
    (s.undefCells as).bd = s.bd := by
  induction as generalizing s with
  | nil => rfl
  | cons a as ih => exact (ih (s := s.undefCell a)).trans rfl
@[simp] theorem State.undefCells_llBit (as : List Nat) :
    (s.undefCells as).llBit = s.llBit := by
  induction as generalizing s with
  | nil => rfl
  | cons a as ih => exact (ih (s := s.undefCell a)).trans rfl
@[simp] theorem State.undefCells_llAddr (as : List Nat) :
    (s.undefCells as).llAddr = s.llAddr := by
  induction as generalizing s with
  | nil => rfl
  | cons a as ih => exact (ih (s := s.undefCell a)).trans rfl
@[simp] theorem State.undefCells_fgr (as : List Nat) :
    (s.undefCells as).fgr = s.fgr := by
  induction as generalizing s with
  | nil => rfl
  | cons a as ih => exact (ih (s := s.undefCell a)).trans rfl
@[simp] theorem State.undefCells_tags (as : List Nat) :
    (s.undefCells as).tags = s.tags := by
  induction as generalizing s with
  | nil => rfl
  | cons a as ih => exact (ih (s := s.undefCell a)).trans rfl
@[simp] theorem State.undefCells_fcsr (as : List Nat) :
    (s.undefCells as).fcsr = s.fcsr := by
  induction as generalizing s with
  | nil => rfl
  | cons a as ih => exact (ih (s := s.undefCell a)).trans rfl
@[simp] theorem State.undefCells_trap (as : List Nat) :
    (s.undefCells as).trap = s.trap := by
  induction as generalizing s with
  | nil => rfl
  | cons a as ih => exact (ih (s := s.undefCell a)).trans rfl
@[simp] theorem State.undefCells_intPending (as : List Nat) :
    (s.undefCells as).intPending = s.intPending := by
  induction as generalizing s with
  | nil => rfl
  | cons a as ih => exact (ih (s := s.undefCell a)).trans rfl
@[simp] theorem State.undefCells_draws (as : List Nat) :
    (s.undefCells as).draws = s.draws := by
  induction as generalizing s with
  | nil => rfl
  | cons a as ih => exact (ih (s := s.undefCell a)).trans rfl

/-! ### `State.writeCells` -/

@[simp] theorem State.writeCells_cfg (cs : List (Nat × Byte)) :
    (s.writeCells cs).cfg = s.cfg := by
  induction cs generalizing s with
  | nil => rfl
  | cons c cs ih => exact (ih (s := s.writeCell c)).trans rfl
@[simp] theorem State.writeCells_gpr (cs : List (Nat × Byte)) :
    (s.writeCells cs).gpr = s.gpr := by
  induction cs generalizing s with
  | nil => rfl
  | cons c cs ih => exact (ih (s := s.writeCell c)).trans rfl
@[simp] theorem State.writeCells_hi (cs : List (Nat × Byte)) :
    (s.writeCells cs).hi = s.hi := by
  induction cs generalizing s with
  | nil => rfl
  | cons c cs ih => exact (ih (s := s.writeCell c)).trans rfl
@[simp] theorem State.writeCells_lo (cs : List (Nat × Byte)) :
    (s.writeCells cs).lo = s.lo := by
  induction cs generalizing s with
  | nil => rfl
  | cons c cs ih => exact (ih (s := s.writeCell c)).trans rfl
@[simp] theorem State.writeCells_hiRd (cs : List (Nat × Byte)) :
    (s.writeCells cs).hiRd = s.hiRd := by
  induction cs generalizing s with
  | nil => rfl
  | cons c cs ih => exact (ih (s := s.writeCell c)).trans rfl
@[simp] theorem State.writeCells_loRd (cs : List (Nat × Byte)) :
    (s.writeCells cs).loRd = s.loRd := by
  induction cs generalizing s with
  | nil => rfl
  | cons c cs ih => exact (ih (s := s.writeCell c)).trans rfl
@[simp] theorem State.writeCells_pc (cs : List (Nat × Byte)) :
    (s.writeCells cs).pc = s.pc := by
  induction cs generalizing s with
  | nil => rfl
  | cons c cs ih => exact (ih (s := s.writeCell c)).trans rfl
@[simp] theorem State.writeCells_npc (cs : List (Nat × Byte)) :
    (s.writeCells cs).npc = s.npc := by
  induction cs generalizing s with
  | nil => rfl
  | cons c cs ih => exact (ih (s := s.writeCell c)).trans rfl
@[simp] theorem State.writeCells_bd (cs : List (Nat × Byte)) :
    (s.writeCells cs).bd = s.bd := by
  induction cs generalizing s with
  | nil => rfl
  | cons c cs ih => exact (ih (s := s.writeCell c)).trans rfl
@[simp] theorem State.writeCells_llBit (cs : List (Nat × Byte)) :
    (s.writeCells cs).llBit = s.llBit := by
  induction cs generalizing s with
  | nil => rfl
  | cons c cs ih => exact (ih (s := s.writeCell c)).trans rfl
@[simp] theorem State.writeCells_llAddr (cs : List (Nat × Byte)) :
    (s.writeCells cs).llAddr = s.llAddr := by
  induction cs generalizing s with
  | nil => rfl
  | cons c cs ih => exact (ih (s := s.writeCell c)).trans rfl
@[simp] theorem State.writeCells_fgr (cs : List (Nat × Byte)) :
    (s.writeCells cs).fgr = s.fgr := by
  induction cs generalizing s with
  | nil => rfl
  | cons c cs ih => exact (ih (s := s.writeCell c)).trans rfl
@[simp] theorem State.writeCells_tags (cs : List (Nat × Byte)) :
    (s.writeCells cs).tags = s.tags := by
  induction cs generalizing s with
  | nil => rfl
  | cons c cs ih => exact (ih (s := s.writeCell c)).trans rfl
@[simp] theorem State.writeCells_fcsr (cs : List (Nat × Byte)) :
    (s.writeCells cs).fcsr = s.fcsr := by
  induction cs generalizing s with
  | nil => rfl
  | cons c cs ih => exact (ih (s := s.writeCell c)).trans rfl
@[simp] theorem State.writeCells_trap (cs : List (Nat × Byte)) :
    (s.writeCells cs).trap = s.trap := by
  induction cs generalizing s with
  | nil => rfl
  | cons c cs ih => exact (ih (s := s.writeCell c)).trans rfl
@[simp] theorem State.writeCells_intPending (cs : List (Nat × Byte)) :
    (s.writeCells cs).intPending = s.intPending := by
  induction cs generalizing s with
  | nil => rfl
  | cons c cs ih => exact (ih (s := s.writeCell c)).trans rfl
@[simp] theorem State.writeCells_draws (cs : List (Nat × Byte)) :
    (s.writeCells cs).draws = s.draws := by
  induction cs generalizing s with
  | nil => rfl
  | cons c cs ih => exact (ih (s := s.writeCell c)).trans rfl

/-! ### `State.disturbLink` -/

@[simp] theorem State.disturbLink_cfg :
    (s.disturbLink).cfg = s.cfg := by unfold State.disturbLink; split <;> simp_all
@[simp] theorem State.disturbLink_gpr :
    (s.disturbLink).gpr = s.gpr := by unfold State.disturbLink; split <;> simp_all
@[simp] theorem State.disturbLink_hi :
    (s.disturbLink).hi = s.hi := by unfold State.disturbLink; split <;> simp_all
@[simp] theorem State.disturbLink_lo :
    (s.disturbLink).lo = s.lo := by unfold State.disturbLink; split <;> simp_all
@[simp] theorem State.disturbLink_hiRd :
    (s.disturbLink).hiRd = s.hiRd := by unfold State.disturbLink; split <;> simp_all
@[simp] theorem State.disturbLink_loRd :
    (s.disturbLink).loRd = s.loRd := by unfold State.disturbLink; split <;> simp_all
@[simp] theorem State.disturbLink_pc :
    (s.disturbLink).pc = s.pc := by unfold State.disturbLink; split <;> simp_all
@[simp] theorem State.disturbLink_npc :
    (s.disturbLink).npc = s.npc := by unfold State.disturbLink; split <;> simp_all
@[simp] theorem State.disturbLink_bd :
    (s.disturbLink).bd = s.bd := by unfold State.disturbLink; split <;> simp_all
@[simp] theorem State.disturbLink_llAddr :
    (s.disturbLink).llAddr = s.llAddr := by unfold State.disturbLink; split <;> simp_all
@[simp] theorem State.disturbLink_fgr :
    (s.disturbLink).fgr = s.fgr := by unfold State.disturbLink; split <;> simp_all
@[simp] theorem State.disturbLink_tags :
    (s.disturbLink).tags = s.tags := by unfold State.disturbLink; split <;> simp_all
@[simp] theorem State.disturbLink_fcsr :
    (s.disturbLink).fcsr = s.fcsr := by unfold State.disturbLink; split <;> simp_all
@[simp] theorem State.disturbLink_mem :
    (s.disturbLink).mem = s.mem := by unfold State.disturbLink; split <;> simp_all
@[simp] theorem State.disturbLink_stored :
    (s.disturbLink).stored = s.stored := by unfold State.disturbLink; split <;> simp_all
@[simp] theorem State.disturbLink_undefMem :
    (s.disturbLink).undefMem = s.undefMem := by unfold State.disturbLink; split <;> simp_all
@[simp] theorem State.disturbLink_trap :
    (s.disturbLink).trap = s.trap := by unfold State.disturbLink; split <;> simp_all
@[simp] theorem State.disturbLink_intPending :
    (s.disturbLink).intPending = s.intPending := by unfold State.disturbLink; split <;> simp_all
@[simp] theorem State.disturbLink_draws :
    (s.disturbLink).draws = s.draws := by unfold State.disturbLink; split <;> simp_all
@[simp] theorem State.disturbLink_llBit :
    (s.disturbLink).llBit = (s.llBit && s.drawBit .link) := by
  cases h : s.llBit <;> simp [State.disturbLink, h]

/-! ### `State.setLink` -/

@[simp] theorem State.setLink_cfg (va : Word) (n : Nat) :
    (s.setLink va n).cfg = s.cfg := by unfold State.setLink; split <;> rfl
@[simp] theorem State.setLink_gpr (va : Word) (n : Nat) :
    (s.setLink va n).gpr = s.gpr := by unfold State.setLink; split <;> rfl
@[simp] theorem State.setLink_hi (va : Word) (n : Nat) :
    (s.setLink va n).hi = s.hi := by unfold State.setLink; split <;> rfl
@[simp] theorem State.setLink_lo (va : Word) (n : Nat) :
    (s.setLink va n).lo = s.lo := by unfold State.setLink; split <;> rfl
@[simp] theorem State.setLink_hiRd (va : Word) (n : Nat) :
    (s.setLink va n).hiRd = s.hiRd := by unfold State.setLink; split <;> rfl
@[simp] theorem State.setLink_loRd (va : Word) (n : Nat) :
    (s.setLink va n).loRd = s.loRd := by unfold State.setLink; split <;> rfl
@[simp] theorem State.setLink_pc (va : Word) (n : Nat) :
    (s.setLink va n).pc = s.pc := by unfold State.setLink; split <;> rfl
@[simp] theorem State.setLink_npc (va : Word) (n : Nat) :
    (s.setLink va n).npc = s.npc := by unfold State.setLink; split <;> rfl
@[simp] theorem State.setLink_bd (va : Word) (n : Nat) :
    (s.setLink va n).bd = s.bd := by unfold State.setLink; split <;> rfl
@[simp] theorem State.setLink_fgr (va : Word) (n : Nat) :
    (s.setLink va n).fgr = s.fgr := by unfold State.setLink; split <;> rfl
@[simp] theorem State.setLink_tags (va : Word) (n : Nat) :
    (s.setLink va n).tags = s.tags := by unfold State.setLink; split <;> rfl
@[simp] theorem State.setLink_fcsr (va : Word) (n : Nat) :
    (s.setLink va n).fcsr = s.fcsr := by unfold State.setLink; split <;> rfl
@[simp] theorem State.setLink_mem (va : Word) (n : Nat) :
    (s.setLink va n).mem = s.mem := by unfold State.setLink; split <;> rfl
@[simp] theorem State.setLink_stored (va : Word) (n : Nat) :
    (s.setLink va n).stored = s.stored := by unfold State.setLink; split <;> rfl
@[simp] theorem State.setLink_undefMem (va : Word) (n : Nat) :
    (s.setLink va n).undefMem = s.undefMem := by unfold State.setLink; split <;> rfl
@[simp] theorem State.setLink_trap (va : Word) (n : Nat) :
    (s.setLink va n).trap = s.trap := by unfold State.setLink; split <;> rfl
@[simp] theorem State.setLink_intPending (va : Word) (n : Nat) :
    (s.setLink va n).intPending = s.intPending := by unfold State.setLink; split <;> rfl
@[simp] theorem State.setLink_draws (va : Word) (n : Nat) :
    (s.setLink va n).draws = s.draws := by unfold State.setLink; split <;> rfl

/-! ### `State.popInterrupt` -/

@[simp] theorem State.popInterrupt_cfg : (s.popInterrupt).cfg = s.cfg := rfl
@[simp] theorem State.popInterrupt_gpr : (s.popInterrupt).gpr = s.gpr := rfl
@[simp] theorem State.popInterrupt_hi : (s.popInterrupt).hi = s.hi := rfl
@[simp] theorem State.popInterrupt_lo : (s.popInterrupt).lo = s.lo := rfl
@[simp] theorem State.popInterrupt_hiRd : (s.popInterrupt).hiRd = s.hiRd := rfl
@[simp] theorem State.popInterrupt_loRd : (s.popInterrupt).loRd = s.loRd := rfl
@[simp] theorem State.popInterrupt_pc : (s.popInterrupt).pc = s.pc := rfl
@[simp] theorem State.popInterrupt_npc : (s.popInterrupt).npc = s.npc := rfl
@[simp] theorem State.popInterrupt_bd : (s.popInterrupt).bd = s.bd := rfl
@[simp] theorem State.popInterrupt_llBit : (s.popInterrupt).llBit = s.llBit := rfl
@[simp] theorem State.popInterrupt_llAddr : (s.popInterrupt).llAddr = s.llAddr := rfl
@[simp] theorem State.popInterrupt_fgr : (s.popInterrupt).fgr = s.fgr := rfl
@[simp] theorem State.popInterrupt_tags : (s.popInterrupt).tags = s.tags := rfl
@[simp] theorem State.popInterrupt_fcsr : (s.popInterrupt).fcsr = s.fcsr := rfl
@[simp] theorem State.popInterrupt_mem : (s.popInterrupt).mem = s.mem := rfl
@[simp] theorem State.popInterrupt_stored : (s.popInterrupt).stored = s.stored := rfl
@[simp] theorem State.popInterrupt_undefMem : (s.popInterrupt).undefMem = s.undefMem := rfl
@[simp] theorem State.popInterrupt_trap : (s.popInterrupt).trap = s.trap := rfl
@[simp] theorem State.popInterrupt_intPending :
    (s.popInterrupt).intPending = s.intPending.tail := rfl
@[simp] theorem State.popInterrupt_draws : (s.popInterrupt).draws = s.draws := rfl

/-! ### `State.putF` -/

@[simp] theorem State.putF_cfg (n : RegNum) (c : Reg) : (s.putF n c).cfg = s.cfg := rfl
@[simp] theorem State.putF_gpr (n : RegNum) (c : Reg) : (s.putF n c).gpr = s.gpr := rfl
@[simp] theorem State.putF_hi (n : RegNum) (c : Reg) : (s.putF n c).hi = s.hi := rfl
@[simp] theorem State.putF_lo (n : RegNum) (c : Reg) : (s.putF n c).lo = s.lo := rfl
@[simp] theorem State.putF_hiRd (n : RegNum) (c : Reg) : (s.putF n c).hiRd = s.hiRd := rfl
@[simp] theorem State.putF_loRd (n : RegNum) (c : Reg) : (s.putF n c).loRd = s.loRd := rfl
@[simp] theorem State.putF_pc (n : RegNum) (c : Reg) : (s.putF n c).pc = s.pc := rfl
@[simp] theorem State.putF_npc (n : RegNum) (c : Reg) : (s.putF n c).npc = s.npc := rfl
@[simp] theorem State.putF_bd (n : RegNum) (c : Reg) : (s.putF n c).bd = s.bd := rfl
@[simp] theorem State.putF_llBit (n : RegNum) (c : Reg) : (s.putF n c).llBit = s.llBit := rfl
@[simp] theorem State.putF_llAddr (n : RegNum) (c : Reg) : (s.putF n c).llAddr = s.llAddr := rfl
@[simp] theorem State.putF_fgr (n : RegNum) (c : Reg) :
    (s.putF n c).fgr = s.fgr.set n.toNat c := rfl
@[simp] theorem State.putF_tags (n : RegNum) (c : Reg) : (s.putF n c).tags = s.tags := rfl
@[simp] theorem State.putF_fcsr (n : RegNum) (c : Reg) : (s.putF n c).fcsr = s.fcsr := rfl
@[simp] theorem State.putF_mem (n : RegNum) (c : Reg) : (s.putF n c).mem = s.mem := rfl
@[simp] theorem State.putF_stored (n : RegNum) (c : Reg) : (s.putF n c).stored = s.stored := rfl
@[simp] theorem State.putF_undefMem (n : RegNum) (c : Reg) :
    (s.putF n c).undefMem = s.undefMem := rfl
@[simp] theorem State.putF_trap (n : RegNum) (c : Reg) : (s.putF n c).trap = s.trap := rfl
@[simp] theorem State.putF_intPending (n : RegNum) (c : Reg) :
    (s.putF n c).intPending = s.intPending := rfl
@[simp] theorem State.putF_draws (n : RegNum) (c : Reg) : (s.putF n c).draws = s.draws := rfl

/-! ### `State.setTag` -/

@[simp] theorem State.setTag_cfg (n : RegNum) (t : Tag) :
    (s.setTag n t).cfg = s.cfg := by unfold State.setTag; split <;> rfl
@[simp] theorem State.setTag_gpr (n : RegNum) (t : Tag) :
    (s.setTag n t).gpr = s.gpr := by unfold State.setTag; split <;> rfl
@[simp] theorem State.setTag_hi (n : RegNum) (t : Tag) :
    (s.setTag n t).hi = s.hi := by unfold State.setTag; split <;> rfl
@[simp] theorem State.setTag_lo (n : RegNum) (t : Tag) :
    (s.setTag n t).lo = s.lo := by unfold State.setTag; split <;> rfl
@[simp] theorem State.setTag_hiRd (n : RegNum) (t : Tag) :
    (s.setTag n t).hiRd = s.hiRd := by unfold State.setTag; split <;> rfl
@[simp] theorem State.setTag_loRd (n : RegNum) (t : Tag) :
    (s.setTag n t).loRd = s.loRd := by unfold State.setTag; split <;> rfl
@[simp] theorem State.setTag_pc (n : RegNum) (t : Tag) :
    (s.setTag n t).pc = s.pc := by unfold State.setTag; split <;> rfl
@[simp] theorem State.setTag_npc (n : RegNum) (t : Tag) :
    (s.setTag n t).npc = s.npc := by unfold State.setTag; split <;> rfl
@[simp] theorem State.setTag_bd (n : RegNum) (t : Tag) :
    (s.setTag n t).bd = s.bd := by unfold State.setTag; split <;> rfl
@[simp] theorem State.setTag_llBit (n : RegNum) (t : Tag) :
    (s.setTag n t).llBit = s.llBit := by unfold State.setTag; split <;> rfl
@[simp] theorem State.setTag_llAddr (n : RegNum) (t : Tag) :
    (s.setTag n t).llAddr = s.llAddr := by unfold State.setTag; split <;> rfl
@[simp] theorem State.setTag_fgr (n : RegNum) (t : Tag) :
    (s.setTag n t).fgr = s.fgr := by unfold State.setTag; split <;> rfl
@[simp] theorem State.setTag_fcsr (n : RegNum) (t : Tag) :
    (s.setTag n t).fcsr = s.fcsr := by unfold State.setTag; split <;> rfl
@[simp] theorem State.setTag_mem (n : RegNum) (t : Tag) :
    (s.setTag n t).mem = s.mem := by unfold State.setTag; split <;> rfl
@[simp] theorem State.setTag_stored (n : RegNum) (t : Tag) :
    (s.setTag n t).stored = s.stored := by unfold State.setTag; split <;> rfl
@[simp] theorem State.setTag_undefMem (n : RegNum) (t : Tag) :
    (s.setTag n t).undefMem = s.undefMem := by unfold State.setTag; split <;> rfl
@[simp] theorem State.setTag_trap (n : RegNum) (t : Tag) :
    (s.setTag n t).trap = s.trap := by unfold State.setTag; split <;> rfl
@[simp] theorem State.setTag_intPending (n : RegNum) (t : Tag) :
    (s.setTag n t).intPending = s.intPending := by unfold State.setTag; split <;> rfl
@[simp] theorem State.setTag_draws (n : RegNum) (t : Tag) :
    (s.setTag n t).draws = s.draws := by unfold State.setTag; split <;> rfl

/-! ### `State.loadFgrWord` -/

@[simp] theorem State.loadFgrWord_cfg (n : RegNum) (c : Reg) :
    (s.loadFgrWord n c).cfg = s.cfg := by simp [State.loadFgrWord]
@[simp] theorem State.loadFgrWord_gpr (n : RegNum) (c : Reg) :
    (s.loadFgrWord n c).gpr = s.gpr := by simp [State.loadFgrWord]
@[simp] theorem State.loadFgrWord_hi (n : RegNum) (c : Reg) :
    (s.loadFgrWord n c).hi = s.hi := by simp [State.loadFgrWord]
@[simp] theorem State.loadFgrWord_lo (n : RegNum) (c : Reg) :
    (s.loadFgrWord n c).lo = s.lo := by simp [State.loadFgrWord]
@[simp] theorem State.loadFgrWord_hiRd (n : RegNum) (c : Reg) :
    (s.loadFgrWord n c).hiRd = s.hiRd := by simp [State.loadFgrWord]
@[simp] theorem State.loadFgrWord_loRd (n : RegNum) (c : Reg) :
    (s.loadFgrWord n c).loRd = s.loRd := by simp [State.loadFgrWord]
@[simp] theorem State.loadFgrWord_pc (n : RegNum) (c : Reg) :
    (s.loadFgrWord n c).pc = s.pc := by simp [State.loadFgrWord]
@[simp] theorem State.loadFgrWord_npc (n : RegNum) (c : Reg) :
    (s.loadFgrWord n c).npc = s.npc := by simp [State.loadFgrWord]
@[simp] theorem State.loadFgrWord_bd (n : RegNum) (c : Reg) :
    (s.loadFgrWord n c).bd = s.bd := by simp [State.loadFgrWord]
@[simp] theorem State.loadFgrWord_llBit (n : RegNum) (c : Reg) :
    (s.loadFgrWord n c).llBit = s.llBit := by simp [State.loadFgrWord]
@[simp] theorem State.loadFgrWord_llAddr (n : RegNum) (c : Reg) :
    (s.loadFgrWord n c).llAddr = s.llAddr := by simp [State.loadFgrWord]
@[simp] theorem State.loadFgrWord_fcsr (n : RegNum) (c : Reg) :
    (s.loadFgrWord n c).fcsr = s.fcsr := by simp [State.loadFgrWord]
@[simp] theorem State.loadFgrWord_mem (n : RegNum) (c : Reg) :
    (s.loadFgrWord n c).mem = s.mem := by simp [State.loadFgrWord]
@[simp] theorem State.loadFgrWord_stored (n : RegNum) (c : Reg) :
    (s.loadFgrWord n c).stored = s.stored := by simp [State.loadFgrWord]
@[simp] theorem State.loadFgrWord_undefMem (n : RegNum) (c : Reg) :
    (s.loadFgrWord n c).undefMem = s.undefMem := by simp [State.loadFgrWord]
@[simp] theorem State.loadFgrWord_trap (n : RegNum) (c : Reg) :
    (s.loadFgrWord n c).trap = s.trap := by simp [State.loadFgrWord]
@[simp] theorem State.loadFgrWord_intPending (n : RegNum) (c : Reg) :
    (s.loadFgrWord n c).intPending = s.intPending := by simp [State.loadFgrWord]
@[simp] theorem State.loadFgrWord_draws (n : RegNum) (c : Reg) :
    (s.loadFgrWord n c).draws = s.draws := by simp [State.loadFgrWord]

/-! ### `State.undefPair` -/

@[simp] theorem State.undefPair_cfg (n : RegNum) :
    (s.undefPair n).cfg = s.cfg := by simp [State.undefPair]
@[simp] theorem State.undefPair_gpr (n : RegNum) :
    (s.undefPair n).gpr = s.gpr := by simp [State.undefPair]
@[simp] theorem State.undefPair_hi (n : RegNum) :
    (s.undefPair n).hi = s.hi := by simp [State.undefPair]
@[simp] theorem State.undefPair_lo (n : RegNum) :
    (s.undefPair n).lo = s.lo := by simp [State.undefPair]
@[simp] theorem State.undefPair_hiRd (n : RegNum) :
    (s.undefPair n).hiRd = s.hiRd := by simp [State.undefPair]
@[simp] theorem State.undefPair_loRd (n : RegNum) :
    (s.undefPair n).loRd = s.loRd := by simp [State.undefPair]
@[simp] theorem State.undefPair_pc (n : RegNum) :
    (s.undefPair n).pc = s.pc := by simp [State.undefPair]
@[simp] theorem State.undefPair_npc (n : RegNum) :
    (s.undefPair n).npc = s.npc := by simp [State.undefPair]
@[simp] theorem State.undefPair_bd (n : RegNum) :
    (s.undefPair n).bd = s.bd := by simp [State.undefPair]
@[simp] theorem State.undefPair_llBit (n : RegNum) :
    (s.undefPair n).llBit = s.llBit := by simp [State.undefPair]
@[simp] theorem State.undefPair_llAddr (n : RegNum) :
    (s.undefPair n).llAddr = s.llAddr := by simp [State.undefPair]
@[simp] theorem State.undefPair_fcsr (n : RegNum) :
    (s.undefPair n).fcsr = s.fcsr := by simp [State.undefPair]
@[simp] theorem State.undefPair_mem (n : RegNum) :
    (s.undefPair n).mem = s.mem := by simp [State.undefPair]
@[simp] theorem State.undefPair_stored (n : RegNum) :
    (s.undefPair n).stored = s.stored := by simp [State.undefPair]
@[simp] theorem State.undefPair_undefMem (n : RegNum) :
    (s.undefPair n).undefMem = s.undefMem := by simp [State.undefPair]
@[simp] theorem State.undefPair_trap (n : RegNum) :
    (s.undefPair n).trap = s.trap := by simp [State.undefPair]
@[simp] theorem State.undefPair_intPending (n : RegNum) :
    (s.undefPair n).intPending = s.intPending := by simp [State.undefPair]
@[simp] theorem State.undefPair_draws (n : RegNum) :
    (s.undefPair n).draws = s.draws := by simp [State.undefPair]

/-! ### `State.putFprDouble` -/

@[simp] theorem State.putFprDouble_cfg (n : RegNum) (c : Reg) :
    (s.putFprDouble n c).cfg = s.cfg := by unfold State.putFprDouble; split <;> rfl
@[simp] theorem State.putFprDouble_gpr (n : RegNum) (c : Reg) :
    (s.putFprDouble n c).gpr = s.gpr := by unfold State.putFprDouble; split <;> rfl
@[simp] theorem State.putFprDouble_hi (n : RegNum) (c : Reg) :
    (s.putFprDouble n c).hi = s.hi := by unfold State.putFprDouble; split <;> rfl
@[simp] theorem State.putFprDouble_lo (n : RegNum) (c : Reg) :
    (s.putFprDouble n c).lo = s.lo := by unfold State.putFprDouble; split <;> rfl
@[simp] theorem State.putFprDouble_hiRd (n : RegNum) (c : Reg) :
    (s.putFprDouble n c).hiRd = s.hiRd := by unfold State.putFprDouble; split <;> rfl
@[simp] theorem State.putFprDouble_loRd (n : RegNum) (c : Reg) :
    (s.putFprDouble n c).loRd = s.loRd := by unfold State.putFprDouble; split <;> rfl
@[simp] theorem State.putFprDouble_pc (n : RegNum) (c : Reg) :
    (s.putFprDouble n c).pc = s.pc := by unfold State.putFprDouble; split <;> rfl
@[simp] theorem State.putFprDouble_npc (n : RegNum) (c : Reg) :
    (s.putFprDouble n c).npc = s.npc := by unfold State.putFprDouble; split <;> rfl
@[simp] theorem State.putFprDouble_bd (n : RegNum) (c : Reg) :
    (s.putFprDouble n c).bd = s.bd := by unfold State.putFprDouble; split <;> rfl
@[simp] theorem State.putFprDouble_llBit (n : RegNum) (c : Reg) :
    (s.putFprDouble n c).llBit = s.llBit := by unfold State.putFprDouble; split <;> rfl
@[simp] theorem State.putFprDouble_llAddr (n : RegNum) (c : Reg) :
    (s.putFprDouble n c).llAddr = s.llAddr := by unfold State.putFprDouble; split <;> rfl
@[simp] theorem State.putFprDouble_tags (n : RegNum) (c : Reg) :
    (s.putFprDouble n c).tags = s.tags := by unfold State.putFprDouble; split <;> rfl
@[simp] theorem State.putFprDouble_fcsr (n : RegNum) (c : Reg) :
    (s.putFprDouble n c).fcsr = s.fcsr := by unfold State.putFprDouble; split <;> rfl
@[simp] theorem State.putFprDouble_mem (n : RegNum) (c : Reg) :
    (s.putFprDouble n c).mem = s.mem := by unfold State.putFprDouble; split <;> rfl
@[simp] theorem State.putFprDouble_stored (n : RegNum) (c : Reg) :
    (s.putFprDouble n c).stored = s.stored := by unfold State.putFprDouble; split <;> rfl
@[simp] theorem State.putFprDouble_undefMem (n : RegNum) (c : Reg) :
    (s.putFprDouble n c).undefMem = s.undefMem := by unfold State.putFprDouble; split <;> rfl
@[simp] theorem State.putFprDouble_trap (n : RegNum) (c : Reg) :
    (s.putFprDouble n c).trap = s.trap := by unfold State.putFprDouble; split <;> rfl
@[simp] theorem State.putFprDouble_intPending (n : RegNum) (c : Reg) :
    (s.putFprDouble n c).intPending = s.intPending := by unfold State.putFprDouble; split <;> rfl
@[simp] theorem State.putFprDouble_draws (n : RegNum) (c : Reg) :
    (s.putFprDouble n c).draws = s.draws := by unfold State.putFprDouble; split <;> rfl

/-! ### `State.loadFprDouble` -/

@[simp] theorem State.loadFprDouble_cfg (n : RegNum) (c : Reg) :
    (s.loadFprDouble n c).cfg = s.cfg := by unfold State.loadFprDouble; split <;> simp
@[simp] theorem State.loadFprDouble_gpr (n : RegNum) (c : Reg) :
    (s.loadFprDouble n c).gpr = s.gpr := by unfold State.loadFprDouble; split <;> simp
@[simp] theorem State.loadFprDouble_hi (n : RegNum) (c : Reg) :
    (s.loadFprDouble n c).hi = s.hi := by unfold State.loadFprDouble; split <;> simp
@[simp] theorem State.loadFprDouble_lo (n : RegNum) (c : Reg) :
    (s.loadFprDouble n c).lo = s.lo := by unfold State.loadFprDouble; split <;> simp
@[simp] theorem State.loadFprDouble_hiRd (n : RegNum) (c : Reg) :
    (s.loadFprDouble n c).hiRd = s.hiRd := by unfold State.loadFprDouble; split <;> simp
@[simp] theorem State.loadFprDouble_loRd (n : RegNum) (c : Reg) :
    (s.loadFprDouble n c).loRd = s.loRd := by unfold State.loadFprDouble; split <;> simp
@[simp] theorem State.loadFprDouble_pc (n : RegNum) (c : Reg) :
    (s.loadFprDouble n c).pc = s.pc := by unfold State.loadFprDouble; split <;> simp
@[simp] theorem State.loadFprDouble_npc (n : RegNum) (c : Reg) :
    (s.loadFprDouble n c).npc = s.npc := by unfold State.loadFprDouble; split <;> simp
@[simp] theorem State.loadFprDouble_bd (n : RegNum) (c : Reg) :
    (s.loadFprDouble n c).bd = s.bd := by unfold State.loadFprDouble; split <;> simp
@[simp] theorem State.loadFprDouble_llBit (n : RegNum) (c : Reg) :
    (s.loadFprDouble n c).llBit = s.llBit := by unfold State.loadFprDouble; split <;> simp
@[simp] theorem State.loadFprDouble_llAddr (n : RegNum) (c : Reg) :
    (s.loadFprDouble n c).llAddr = s.llAddr := by unfold State.loadFprDouble; split <;> simp
@[simp] theorem State.loadFprDouble_fcsr (n : RegNum) (c : Reg) :
    (s.loadFprDouble n c).fcsr = s.fcsr := by unfold State.loadFprDouble; split <;> simp
@[simp] theorem State.loadFprDouble_mem (n : RegNum) (c : Reg) :
    (s.loadFprDouble n c).mem = s.mem := by unfold State.loadFprDouble; split <;> simp
@[simp] theorem State.loadFprDouble_stored (n : RegNum) (c : Reg) :
    (s.loadFprDouble n c).stored = s.stored := by unfold State.loadFprDouble; split <;> simp
@[simp] theorem State.loadFprDouble_undefMem (n : RegNum) (c : Reg) :
    (s.loadFprDouble n c).undefMem = s.undefMem := by unfold State.loadFprDouble; split <;> simp
@[simp] theorem State.loadFprDouble_trap (n : RegNum) (c : Reg) :
    (s.loadFprDouble n c).trap = s.trap := by unfold State.loadFprDouble; split <;> simp
@[simp] theorem State.loadFprDouble_intPending (n : RegNum) (c : Reg) :
    (s.loadFprDouble n c).intPending = s.intPending := by unfold State.loadFprDouble; split <;> simp
@[simp] theorem State.loadFprDouble_draws (n : RegNum) (c : Reg) :
    (s.loadFprDouble n c).draws = s.draws := by unfold State.loadFprDouble; split <;> simp

/-! ### `State.valueFpr` -/

@[simp] theorem State.valueFpr_cfg (site : DrawSite) (n : RegNum) (fmt : Fmt) :
    (s.valueFpr site n fmt).2.cfg = s.cfg := by
  simp only [State.valueFpr]
  repeat' split
  all_goals simp
@[simp] theorem State.valueFpr_gpr (site : DrawSite) (n : RegNum) (fmt : Fmt) :
    (s.valueFpr site n fmt).2.gpr = s.gpr := by
  simp only [State.valueFpr]
  repeat' split
  all_goals simp
@[simp] theorem State.valueFpr_hi (site : DrawSite) (n : RegNum) (fmt : Fmt) :
    (s.valueFpr site n fmt).2.hi = s.hi := by
  simp only [State.valueFpr]
  repeat' split
  all_goals simp
@[simp] theorem State.valueFpr_lo (site : DrawSite) (n : RegNum) (fmt : Fmt) :
    (s.valueFpr site n fmt).2.lo = s.lo := by
  simp only [State.valueFpr]
  repeat' split
  all_goals simp
@[simp] theorem State.valueFpr_hiRd (site : DrawSite) (n : RegNum) (fmt : Fmt) :
    (s.valueFpr site n fmt).2.hiRd = s.hiRd := by
  simp only [State.valueFpr]
  repeat' split
  all_goals simp
@[simp] theorem State.valueFpr_loRd (site : DrawSite) (n : RegNum) (fmt : Fmt) :
    (s.valueFpr site n fmt).2.loRd = s.loRd := by
  simp only [State.valueFpr]
  repeat' split
  all_goals simp
@[simp] theorem State.valueFpr_pc (site : DrawSite) (n : RegNum) (fmt : Fmt) :
    (s.valueFpr site n fmt).2.pc = s.pc := by
  simp only [State.valueFpr]
  repeat' split
  all_goals simp
@[simp] theorem State.valueFpr_npc (site : DrawSite) (n : RegNum) (fmt : Fmt) :
    (s.valueFpr site n fmt).2.npc = s.npc := by
  simp only [State.valueFpr]
  repeat' split
  all_goals simp
@[simp] theorem State.valueFpr_bd (site : DrawSite) (n : RegNum) (fmt : Fmt) :
    (s.valueFpr site n fmt).2.bd = s.bd := by
  simp only [State.valueFpr]
  repeat' split
  all_goals simp
@[simp] theorem State.valueFpr_llBit (site : DrawSite) (n : RegNum) (fmt : Fmt) :
    (s.valueFpr site n fmt).2.llBit = s.llBit := by
  simp only [State.valueFpr]
  repeat' split
  all_goals simp
@[simp] theorem State.valueFpr_llAddr (site : DrawSite) (n : RegNum) (fmt : Fmt) :
    (s.valueFpr site n fmt).2.llAddr = s.llAddr := by
  simp only [State.valueFpr]
  repeat' split
  all_goals simp
@[simp] theorem State.valueFpr_fgr (site : DrawSite) (n : RegNum) (fmt : Fmt) :
    (s.valueFpr site n fmt).2.fgr = s.fgr := by
  simp only [State.valueFpr]
  repeat' split
  all_goals simp
@[simp] theorem State.valueFpr_fcsr (site : DrawSite) (n : RegNum) (fmt : Fmt) :
    (s.valueFpr site n fmt).2.fcsr = s.fcsr := by
  simp only [State.valueFpr]
  repeat' split
  all_goals simp
@[simp] theorem State.valueFpr_mem (site : DrawSite) (n : RegNum) (fmt : Fmt) :
    (s.valueFpr site n fmt).2.mem = s.mem := by
  simp only [State.valueFpr]
  repeat' split
  all_goals simp
@[simp] theorem State.valueFpr_stored (site : DrawSite) (n : RegNum) (fmt : Fmt) :
    (s.valueFpr site n fmt).2.stored = s.stored := by
  simp only [State.valueFpr]
  repeat' split
  all_goals simp
@[simp] theorem State.valueFpr_undefMem (site : DrawSite) (n : RegNum) (fmt : Fmt) :
    (s.valueFpr site n fmt).2.undefMem = s.undefMem := by
  simp only [State.valueFpr]
  repeat' split
  all_goals simp
@[simp] theorem State.valueFpr_trap (site : DrawSite) (n : RegNum) (fmt : Fmt) :
    (s.valueFpr site n fmt).2.trap = s.trap := by
  simp only [State.valueFpr]
  repeat' split
  all_goals simp
@[simp] theorem State.valueFpr_intPending (site : DrawSite) (n : RegNum) (fmt : Fmt) :
    (s.valueFpr site n fmt).2.intPending = s.intPending := by
  simp only [State.valueFpr]
  repeat' split
  all_goals simp
@[simp] theorem State.valueFpr_draws (site : DrawSite) (n : RegNum) (fmt : Fmt) :
    (s.valueFpr site n fmt).2.draws = s.draws := by
  simp only [State.valueFpr]
  repeat' split
  all_goals simp

/-! ### `State.storeFpr` -/

@[simp] theorem State.storeFpr_cfg (n : RegNum) (fmt : Fmt) (v : Word) :
    (s.storeFpr n fmt v).cfg = s.cfg := by
  unfold State.storeFpr
  repeat' split
  all_goals simp
@[simp] theorem State.storeFpr_gpr (n : RegNum) (fmt : Fmt) (v : Word) :
    (s.storeFpr n fmt v).gpr = s.gpr := by
  unfold State.storeFpr
  repeat' split
  all_goals simp
@[simp] theorem State.storeFpr_hi (n : RegNum) (fmt : Fmt) (v : Word) :
    (s.storeFpr n fmt v).hi = s.hi := by
  unfold State.storeFpr
  repeat' split
  all_goals simp
@[simp] theorem State.storeFpr_lo (n : RegNum) (fmt : Fmt) (v : Word) :
    (s.storeFpr n fmt v).lo = s.lo := by
  unfold State.storeFpr
  repeat' split
  all_goals simp
@[simp] theorem State.storeFpr_hiRd (n : RegNum) (fmt : Fmt) (v : Word) :
    (s.storeFpr n fmt v).hiRd = s.hiRd := by
  unfold State.storeFpr
  repeat' split
  all_goals simp
@[simp] theorem State.storeFpr_loRd (n : RegNum) (fmt : Fmt) (v : Word) :
    (s.storeFpr n fmt v).loRd = s.loRd := by
  unfold State.storeFpr
  repeat' split
  all_goals simp
@[simp] theorem State.storeFpr_pc (n : RegNum) (fmt : Fmt) (v : Word) :
    (s.storeFpr n fmt v).pc = s.pc := by
  unfold State.storeFpr
  repeat' split
  all_goals simp
@[simp] theorem State.storeFpr_npc (n : RegNum) (fmt : Fmt) (v : Word) :
    (s.storeFpr n fmt v).npc = s.npc := by
  unfold State.storeFpr
  repeat' split
  all_goals simp
@[simp] theorem State.storeFpr_bd (n : RegNum) (fmt : Fmt) (v : Word) :
    (s.storeFpr n fmt v).bd = s.bd := by
  unfold State.storeFpr
  repeat' split
  all_goals simp
@[simp] theorem State.storeFpr_llBit (n : RegNum) (fmt : Fmt) (v : Word) :
    (s.storeFpr n fmt v).llBit = s.llBit := by
  unfold State.storeFpr
  repeat' split
  all_goals simp
@[simp] theorem State.storeFpr_llAddr (n : RegNum) (fmt : Fmt) (v : Word) :
    (s.storeFpr n fmt v).llAddr = s.llAddr := by
  unfold State.storeFpr
  repeat' split
  all_goals simp
@[simp] theorem State.storeFpr_fcsr (n : RegNum) (fmt : Fmt) (v : Word) :
    (s.storeFpr n fmt v).fcsr = s.fcsr := by
  unfold State.storeFpr
  repeat' split
  all_goals simp
@[simp] theorem State.storeFpr_mem (n : RegNum) (fmt : Fmt) (v : Word) :
    (s.storeFpr n fmt v).mem = s.mem := by
  unfold State.storeFpr
  repeat' split
  all_goals simp
@[simp] theorem State.storeFpr_stored (n : RegNum) (fmt : Fmt) (v : Word) :
    (s.storeFpr n fmt v).stored = s.stored := by
  unfold State.storeFpr
  repeat' split
  all_goals simp
@[simp] theorem State.storeFpr_undefMem (n : RegNum) (fmt : Fmt) (v : Word) :
    (s.storeFpr n fmt v).undefMem = s.undefMem := by
  unfold State.storeFpr
  repeat' split
  all_goals simp
@[simp] theorem State.storeFpr_trap (n : RegNum) (fmt : Fmt) (v : Word) :
    (s.storeFpr n fmt v).trap = s.trap := by
  unfold State.storeFpr
  repeat' split
  all_goals simp
@[simp] theorem State.storeFpr_intPending (n : RegNum) (fmt : Fmt) (v : Word) :
    (s.storeFpr n fmt v).intPending = s.intPending := by
  unfold State.storeFpr
  repeat' split
  all_goals simp
@[simp] theorem State.storeFpr_draws (n : RegNum) (fmt : Fmt) (v : Word) :
    (s.storeFpr n fmt v).draws = s.draws := by
  unfold State.storeFpr
  repeat' split
  all_goals simp

/-! ### `State.setFcc` -/

@[simp] theorem State.setFcc_cfg (cc : BitVec 3) (b : Bool) : (s.setFcc cc b).cfg = s.cfg := rfl
@[simp] theorem State.setFcc_gpr (cc : BitVec 3) (b : Bool) : (s.setFcc cc b).gpr = s.gpr := rfl
@[simp] theorem State.setFcc_hi (cc : BitVec 3) (b : Bool) : (s.setFcc cc b).hi = s.hi := rfl
@[simp] theorem State.setFcc_lo (cc : BitVec 3) (b : Bool) : (s.setFcc cc b).lo = s.lo := rfl
@[simp] theorem State.setFcc_hiRd (cc : BitVec 3) (b : Bool) : (s.setFcc cc b).hiRd = s.hiRd := rfl
@[simp] theorem State.setFcc_loRd (cc : BitVec 3) (b : Bool) : (s.setFcc cc b).loRd = s.loRd := rfl
@[simp] theorem State.setFcc_pc (cc : BitVec 3) (b : Bool) : (s.setFcc cc b).pc = s.pc := rfl
@[simp] theorem State.setFcc_npc (cc : BitVec 3) (b : Bool) : (s.setFcc cc b).npc = s.npc := rfl
@[simp] theorem State.setFcc_bd (cc : BitVec 3) (b : Bool) : (s.setFcc cc b).bd = s.bd := rfl
@[simp] theorem State.setFcc_llBit (cc : BitVec 3) (b : Bool) :
    (s.setFcc cc b).llBit = s.llBit := rfl
@[simp] theorem State.setFcc_llAddr (cc : BitVec 3) (b : Bool) :
    (s.setFcc cc b).llAddr = s.llAddr := rfl
@[simp] theorem State.setFcc_fgr (cc : BitVec 3) (b : Bool) : (s.setFcc cc b).fgr = s.fgr := rfl
@[simp] theorem State.setFcc_tags (cc : BitVec 3) (b : Bool) : (s.setFcc cc b).tags = s.tags := rfl
@[simp] theorem State.setFcc_mem (cc : BitVec 3) (b : Bool) : (s.setFcc cc b).mem = s.mem := rfl
@[simp] theorem State.setFcc_stored (cc : BitVec 3) (b : Bool) :
    (s.setFcc cc b).stored = s.stored := rfl
@[simp] theorem State.setFcc_undefMem (cc : BitVec 3) (b : Bool) :
    (s.setFcc cc b).undefMem = s.undefMem := rfl
@[simp] theorem State.setFcc_trap (cc : BitVec 3) (b : Bool) : (s.setFcc cc b).trap = s.trap := rfl
@[simp] theorem State.setFcc_intPending (cc : BitVec 3) (b : Bool) :
    (s.setFcc cc b).intPending = s.intPending := rfl
@[simp] theorem State.setFcc_draws (cc : BitVec 3) (b : Bool) :
    (s.setFcc cc b).draws = s.draws := rfl

end Sys2Proof.Machine
end

