-- ==== Sys2Proof/Laws/Memory.lean ====
section
/-! SUPPORT. Memory: reading after writing, what a write leaves alone, and that every operation keeps
the canonical form; the list of stored addresses likewise. -/

namespace Sys2Proof.Machine

open Sys2Proof

/-! ### One byte -/

theorem Memory.read_of_forall_ne {m : Memory} {a : Nat} (h : ∀ c ∈ m, c.1 ≠ a) :
    m.read a = Memory.unlisted := by
  induction m with
  | nil => rfl
  | cons c m ih =>
    have h1 : a ≠ c.1 := fun e => h c (by simp) e.symm
    simpa [Memory.read, h1] using ih fun d hd => h d (by simp [hd])

theorem Memory.read_cons_same {m : Memory} {a : Nat} (v : Byte) (h : ∀ c ∈ m, c.1 ≠ a) :
    (Memory.cons a v m).read a = v := by
  unfold Memory.cons
  split
  · next hv => rw [Memory.read_of_forall_ne h, hv]
  · simp [Memory.read]

theorem Memory.read_cons_other {m : Memory} {a b : Nat} (v : Byte) (h : b ≠ a) :
    (Memory.cons a v m).read b = m.read b := by
  unfold Memory.cons
  split
  · rfl
  · simp [Memory.read, h]

/-- A write leaves every other byte alone; no form of the list is needed. -/
theorem Memory.read_write_other {m : Memory} {a b : Nat} (v : Byte) (h : b ≠ a) :
    (m.write a v).read b = m.read b := by
  induction m with
  | nil => simp [Memory.write, Memory.read_cons_other v h]
  | cons c m ih =>
    obtain ⟨k, w⟩ := c
    simp only [Memory.write]
    split
    · exact Memory.read_cons_other v h
    · split
      · next hk => subst hk; simp [Memory.read_cons_other v h, Memory.read, h]
      · simp [Memory.read, ih]

theorem Memory.wf_cons_iff {m : Memory} {a : Nat} {v : Byte} :
    Memory.wf ((a, v) :: m) = true ↔
      v ≠ Memory.unlisted ∧ (∀ c ∈ m, a < c.1) ∧ m.wf = true := by
  simp [Memory.wf, and_assoc]

/-- Writing a byte and reading it back, in canonical form. -/
theorem Memory.read_write_same {m : Memory} (a : Nat) (v : Byte) (h : m.wf = true) :
    (m.write a v).read a = v := by
  induction m with
  | nil => simpa [Memory.write] using Memory.read_cons_same (m := []) (a := a) v (by simp)
  | cons c m ih =>
    obtain ⟨k, w⟩ := c
    obtain ⟨-, hlt, hwf⟩ := Memory.wf_cons_iff.mp h
    simp only [Memory.write]
    split
    · next hk =>
      refine Memory.read_cons_same v fun c hc => ?_
      rcases List.mem_cons.mp hc with rfl | hc
      · simp only; omega
      · have := hlt c hc; omega
    · split
      · next hk =>
        subst hk
        exact Memory.read_cons_same v fun c hc => by have := hlt c hc; omega
      · next hk => simp [Memory.read, hk, ih hwf]

theorem Memory.mem_cons_sub {m : Memory} {a : Nat} {v : Byte} {c : Host.Cell}
    (h : c ∈ Memory.cons a v m) : c = (a, v) ∨ c ∈ m := by
  unfold Memory.cons at h
  split at h
  · exact .inr h
  · exact List.mem_cons.mp h

/-- What a write lists: the byte written, or a byte listed before. -/
theorem Memory.mem_write_sub {m : Memory} {a : Nat} {v : Byte} {c : Host.Cell}
    (h : c ∈ m.write a v) : c = (a, v) ∨ c ∈ m := by
  induction m with
  | nil => simpa [Memory.write] using Memory.mem_cons_sub h
  | cons d m ih =>
    obtain ⟨k, w⟩ := d
    simp only [Memory.write] at h
    split at h
    · exact Memory.mem_cons_sub h
    · split at h
      · rcases Memory.mem_cons_sub h with h | h
        · exact .inl h
        · exact .inr (by simp [h])
      · rcases List.mem_cons.mp h with h | h
        · exact .inr (by simp [h])
        · rcases ih h with h | h
          · exact .inl h
          · exact .inr (by simp [h])

theorem Memory.wf_cons {m : Memory} {a : Nat} (v : Byte) (h : m.wf = true)
    (hlt : ∀ c ∈ m, a < c.1) : (Memory.cons a v m).wf = true := by
  unfold Memory.cons
  split
  · exact h
  · next hv => exact Memory.wf_cons_iff.mpr ⟨hv, hlt, h⟩

/-- A write keeps the canonical form. -/
theorem Memory.wf_write {m : Memory} (a : Nat) (v : Byte) (h : m.wf = true) :
    (m.write a v).wf = true := by
  induction m with
  | nil => exact Memory.wf_cons v rfl (by simp)
  | cons c m ih =>
    obtain ⟨k, w⟩ := c
    obtain ⟨hw, hlt, hwf⟩ := Memory.wf_cons_iff.mp h
    simp only [Memory.write]
    split
    · next hk =>
      refine Memory.wf_cons v h fun c hc => ?_
      rcases List.mem_cons.mp hc with rfl | hc
      · exact hk
      · exact hk.trans (hlt c hc)
    · split
      · next hk => subst hk; exact Memory.wf_cons v hwf hlt
      · refine Memory.wf_cons_iff.mpr ⟨hw, fun c hc => ?_, ih hwf⟩
        rcases Memory.mem_write_sub hc with rfl | hc
        · simp only; omega
        · exact hlt c hc

/-- Two memories in canonical form that read alike are the same data. -/
theorem Memory.ext_of_wf {m n : Memory} (hm : m.wf = true) (hn : n.wf = true)
    (h : ∀ a, m.read a = n.read a) : m = n := by
  induction m generalizing n with
  | nil =>
    cases n with
    | nil => rfl
    | cons d n =>
      obtain ⟨k, w⟩ := d
      obtain ⟨hw, -, -⟩ := Memory.wf_cons_iff.mp hn
      exact absurd (by simpa [Memory.read] using (h k).symm) hw
  | cons c m ih =>
    obtain ⟨a, v⟩ := c
    obtain ⟨hv, hlt, hm'⟩ := Memory.wf_cons_iff.mp hm
    cases n with
    | nil => exact absurd (by simpa [Memory.read] using h a) hv
    | cons d n =>
      obtain ⟨b, w⟩ := d
      obtain ⟨hw, hlt', hn'⟩ := Memory.wf_cons_iff.mp hn
      have out {l : Memory} {x y : Nat} (hl : ∀ c ∈ l, x < c.1) (hy : y ≤ x) :
          l.read y = Memory.unlisted :=
        Memory.read_of_forall_ne fun c hc => by have := hl c hc; omega
      have hab : a = b := by
        rcases Nat.lt_trichotomy a b with hl | hl | hl
        · have := h a
          simp [Memory.read, hl.ne, out hlt' hl.le] at this
          exact absurd this hv
        · exact hl
        · have := h b
          simp [Memory.read, hl.ne, out hlt hl.le] at this
          exact absurd this.symm hw
      subst hab
      have hvw : v = w := by simpa [Memory.read] using h a
      subst hvw
      refine congrArg _ (ih hm' hn' fun x => ?_)
      by_cases hx : x = a
      · subst hx; rw [out hlt le_rfl, out hlt' le_rfl]
      · simpa [Memory.read, hx] using h x

/-! ### Stored addresses -/

@[simp] theorem mem_insertAddr {a b : Nat} {l : List Nat} :
    b ∈ insertAddr a l ↔ b = a ∨ b ∈ l := by
  induction l with
  | nil => simp [insertAddr]
  | cons c l ih =>
    simp only [insertAddr]
    split
    · simp
    · split
      · next h => subst h; simp
      · simp [ih]; tauto

theorem rising_insertAddr {a : Nat} {l : List Nat} (h : rising l = true) :
    rising (insertAddr a l) = true := by
  induction l with
  | nil => rfl
  | cons c l ih =>
    simp only [rising, Bool.and_eq_true, List.all_eq_true, decide_eq_true_eq] at h
    simp only [insertAddr]
    split
    · next hac =>
      simp only [rising, Bool.and_eq_true, List.all_eq_true, decide_eq_true_eq]
      refine ⟨fun b hb => ?_, h⟩
      rcases List.mem_cons.mp hb with rfl | hb
      · exact hac
      · exact hac.trans (h.1 b hb)
    · split
      · simpa only [rising, Bool.and_eq_true, List.all_eq_true, decide_eq_true_eq] using h
      · next h1 h2 =>
        simp only [rising, Bool.and_eq_true, List.all_eq_true, decide_eq_true_eq]
        refine ⟨fun b hb => ?_, ih h.2⟩
        rcases mem_insertAddr.mp hb with rfl | hb
        · omega
        · exact h.1 b hb

/-! ### Several bytes -/

variable {s : State} {cs : List (Nat × Byte)}

theorem State.writeCells_mem_wf (h : s.mem.wf = true) : (s.writeCells cs).mem.wf = true := by
  induction cs generalizing s with
  | nil => exact h
  | cons c cs ih => exact ih (s := s.writeCell c) (by simpa using Memory.wf_write _ _ h)

theorem State.writeCells_rising (h : rising s.stored = true) :
    rising (s.writeCells cs).stored = true := by
  induction cs generalizing s with
  | nil => exact h
  | cons c cs ih => exact ih (s := s.writeCell c) (by simpa using rising_insertAddr h)

theorem State.mem_writeCells_stored {a : Nat} :
    a ∈ (s.writeCells cs).stored ↔ a ∈ s.stored ∨ a ∈ cs.map Prod.fst := by
  induction cs generalizing s with
  | nil => simp [State.writeCells]
  | cons c cs ih =>
    have := ih (s := s.writeCell c)
    simp only [State.writeCells, List.foldl_cons] at this ⊢
    rw [this]
    simp; tauto

theorem State.mem_writeCells_mem {c : Host.Cell} (h : c ∈ (s.writeCells cs).mem) :
    c ∈ s.mem ∨ c ∈ cs := by
  induction cs generalizing s with
  | nil => exact .inl h
  | cons d cs ih =>
    rcases ih (s := s.writeCell d) h with h | h
    · rcases Memory.mem_write_sub (by simpa using h) with h | h
      · exact .inr (by simp [h])
      · exact .inl h
    · exact .inr (by simp [h])

/-- A store leaves every byte outside it alone. -/
theorem State.writeCells_read_other {a : Nat} (h : a ∉ cs.map Prod.fst) :
    (s.writeCells cs).mem.read a = s.mem.read a := by
  induction cs generalizing s with
  | nil => rfl
  | cons c cs ih =>
    simp only [List.map_cons, List.mem_cons, not_or] at h
    exact (ih (s := s.writeCell c) h.2).trans
      (by simpa using Memory.read_write_other c.2 h.1)

/-- A store to distinct addresses reads back. -/
theorem State.writeCells_read_same (hw : s.mem.wf = true) (hd : (cs.map Prod.fst).Nodup)
    {c : Nat × Byte} (hc : c ∈ cs) : (s.writeCells cs).mem.read c.1 = c.2 := by
  induction cs generalizing s with
  | nil => simp at hc
  | cons d cs ih =>
    simp only [List.map_cons, List.nodup_cons] at hd
    have hw' : (s.writeCell d).mem.wf = true := by simpa using Memory.wf_write _ _ hw
    rcases List.mem_cons.mp hc with rfl | hc
    · exact (State.writeCells_read_other (s := s.writeCell c) hd.1).trans
        (by simpa using Memory.read_write_same c.1 c.2 hw)
    · exact ih (s := s.writeCell d) hw' hd.2 hc

/-! ### Undefined bytes (00_scope.md R13, log 12) -/

theorem rising_filter {l : List Nat} (p : Nat → Bool) (h : rising l = true) :
    rising (l.filter p) = true := by
  induction l with
  | nil => rfl
  | cons c l ih =>
    simp only [rising, Bool.and_eq_true, List.all_eq_true, decide_eq_true_eq] at h
    rw [List.filter_cons]
    split
    · simp only [rising, Bool.and_eq_true, List.all_eq_true, decide_eq_true_eq]
      exact ⟨fun b hb => h.1 b (List.mem_filter.mp hb).1, ih h.2⟩
    · exact ih h.2

/-- A defined byte reads as memory holds it. -/
theorem State.readByte_of_not_mem {a : Nat} (h : a ∉ s.undefMem) : s.readByte a = s.mem.read a := by
  simp [State.readByte, h]

/-- A store makes the bytes it writes defined, and no others. -/
theorem State.mem_writeCells_undefMem {a : Nat} :
    a ∈ (s.writeCells cs).undefMem ↔ a ∈ s.undefMem ∧ a ∉ cs.map Prod.fst := by
  induction cs generalizing s with
  | nil => simp [State.writeCells]
  | cons c cs ih =>
    have := ih (s := s.writeCell c)
    simp only [State.writeCells, List.foldl_cons] at this ⊢
    rw [this]
    simp; tauto

theorem State.writeCells_undefMem_rising (h : rising s.undefMem = true) :
    rising (s.writeCells cs).undefMem = true := by
  induction cs generalizing s with
  | nil => exact h
  | cons c cs ih => exact ih (s := s.writeCell c) (by simpa using rising_filter _ h)

variable {as : List Nat}

/-- A store of UNDEF makes the bytes it writes undefined, and no others. -/
theorem State.mem_undefCells_undefMem {a : Nat} :
    a ∈ (s.undefCells as).undefMem ↔ a ∈ s.undefMem ∨ a ∈ as := by
  induction as generalizing s with
  | nil => simp [State.undefCells]
  | cons c as ih =>
    have := ih (s := s.undefCell c)
    simp only [State.undefCells, List.foldl_cons] at this ⊢
    rw [this]
    simp; tauto

theorem State.mem_undefCells_stored {a : Nat} :
    a ∈ (s.undefCells as).stored ↔ a ∈ s.stored ∨ a ∈ as := by
  induction as generalizing s with
  | nil => simp [State.undefCells]
  | cons c as ih =>
    have := ih (s := s.undefCell c)
    simp only [State.undefCells, List.foldl_cons] at this ⊢
    rw [this]
    simp; tauto

theorem State.undefCells_undefMem_rising (h : rising s.undefMem = true) :
    rising (s.undefCells as).undefMem = true := by
  induction as generalizing s with
  | nil => exact h
  | cons c as ih => exact ih (s := s.undefCell c) (by simpa using rising_insertAddr h)

theorem State.undefCells_rising (h : rising s.stored = true) :
    rising (s.undefCells as).stored = true := by
  induction as generalizing s with
  | nil => exact h
  | cons c as ih => exact ih (s := s.undefCell c) (by simpa using rising_insertAddr h)

theorem State.undefCells_mem_wf (h : s.mem.wf = true) : (s.undefCells as).mem.wf = true := by
  induction as generalizing s with
  | nil => exact h
  | cons c as ih => exact ih (s := s.undefCell c) (by simpa using Memory.wf_write _ _ h)

theorem State.mem_undefCells_mem {c : Host.Cell} (h : c ∈ (s.undefCells as).mem) :
    c ∈ s.mem ∨ c.1 ∈ as := by
  induction as generalizing s with
  | nil => exact .inl h
  | cons d as ih =>
    rcases ih (s := s.undefCell d) h with h | h
    · rcases Memory.mem_write_sub (by simpa using h) with h | h
      · exact .inr (by simp [h])
      · exact .inl h
    · exact .inr (by simp [h])

theorem State.undefCells_read_other {a : Nat} (h : a ∉ as) :
    (s.undefCells as).mem.read a = s.mem.read a := by
  induction as generalizing s with
  | nil => rfl
  | cons c as ih =>
    simp only [List.mem_cons, not_or] at h
    exact (ih (s := s.undefCell c) h.2).trans (by simpa using Memory.read_write_other _ h.1)

/-- An undefined byte carries no value. -/
theorem State.undefCells_read_same (hw : s.mem.wf = true) {a : Nat} (ha : a ∈ as) :
    (s.undefCells as).mem.read a = Memory.unlisted := by
  induction as generalizing s with
  | nil => cases ha
  | cons c as ih =>
    have hw' : (s.undefCell c).mem.wf = true := by simpa using Memory.wf_write _ _ hw
    by_cases hm : a ∈ as
    · exact ih (s := s.undefCell c) hw' hm
    · obtain rfl : a = c := by simpa [hm] using ha
      exact (State.undefCells_read_other (s := s.undefCell a) hm).trans
        (by simpa using Memory.read_write_same a _ hw)

end Sys2Proof.Machine
end

