-- ==== Sys2Proof/Laws/Ops.lean ====
section
/-! SUPPORT. One lemma per shared operation of the meanings: everything the operation can answer. Later
proofs take an instruction apart with these and unfold none of the operations. -/

namespace Sys2Proof.Machine

open Sys2Proof

variable {s t : State}

/-! ### Registers -/

theorem Reg.read_of (v d : Word) : (Reg.of v).read d = v := if_pos rfl

theorem Reg.read_unknown (d : Word) : Reg.unknown.read d = d := by
  show (0#64 &&& ~~~BitVec.allOnes 64) ||| (d &&& BitVec.allOnes 64) = d
  rw [BitVec.zero_and, BitVec.zero_or, BitVec.and_allOnes]

theorem State.x_eq_cellX (site : DrawSite) (r : RegNum) :
    s.x site r = (s.cellX r).read (s.draw site) := by
  unfold State.x State.cellX
  split
  · rw [Reg.read_of]
  · rfl

theorem State.x_zero (site : DrawSite) : s.x site 0 = 0 := rfl

theorem State.cellX_putX (r q : RegNum) (c : Reg) :
    (s.putX r c).cellX q = if q = 0 then Reg.of 0 else if q = r then c else s.cellX q := by
  unfold State.cellX
  split
  · rfl
  · next hq =>
    simp only [State.putX_gpr]
    by_cases hqr : q = r
    · subst hqr
      rw [if_pos rfl]
      simp only [if_neg hq, Vector.getElem_set_self]
    · have : r.toNat ≠ q.toNat := fun e => hqr (BitVec.toNat_inj.mp e).symm
      rw [if_neg hqr]
      split
      · rfl
      · exact Vector.getElem_set_ne _ _ this

theorem State.putX_gpr_of_ne {r q : RegNum} (c : Reg) (h : q ≠ r ∨ q = 0) :
    (s.putX r c).gpr[q.toNat] = s.gpr[q.toNat] := by
  simp only [State.putX_gpr]
  split
  · rfl
  · next hr =>
    have : r.toNat ≠ q.toNat := by
      intro e
      have e' := BitVec.toNat_inj.mp e
      rcases h with h | h
      · exact h e'.symm
      · exact hr (e'.trans h)
    exact Vector.getElem_set_ne _ _ this

theorem State.putF_fgr_of_ne {n m : RegNum} (c : Reg) (h : m ≠ n) :
    (s.putF n c).fgr[m.toNat] = s.fgr[m.toNat] := by
  have : n.toNat ≠ m.toNat := fun e => h (BitVec.toNat_inj.mp e).symm
  simp [Vector.getElem_set_ne _ _ this]

theorem State.putF_fgr_same (n : RegNum) (c : Reg) : (s.putF n c).fgr[n.toNat] = c := by simp

/-! ### Guards -/

theorem State.withCu1_next {k : Result} (h : s.withCu1 k = .next t) :
    (s.cfg.cu1 = true ∧ k = .next t) ∨
      (s.cfg.cu1 = false ∧ t = s.raise (.coprocessorUnusable 1)) := by
  unfold State.withCu1 at h
  split at h
  · next hc => exact .inl ⟨hc, h⟩
  · next hc => cases h; exact .inr ⟨by simpa using hc, rfl⟩

theorem State.withCu2_next {k : Result} (h : s.withCu2 k = .next t) :
    (s.cfg.cu2 = true ∧ k = .next t) ∨
      (s.cfg.cu2 = false ∧ t = s.raise (.coprocessorUnusable 2)) := by
  unfold State.withCu2 at h
  split at h
  · next hc => exact .inl ⟨hc, h⟩
  · next hc => cases h; exact .inr ⟨by simpa using hc, rfl⟩

theorem offsetCheck_next {offset : BitVec 16} {n : Nat} {k : Result}
    (h : offsetCheck offset n k = .next t) : lowZero offset n = true ∧ k = .next t := by
  unfold offsetCheck at h
  split at h
  · next hc => exact ⟨hc, h⟩
  · cases h

theorem State.branch_next {k : Result} (h : s.branch k = .next t) : s.bd = false ∧ k = .next t := by
  unfold State.branch at h
  split at h
  · cases h
  · next hc => exact ⟨by simpa using hc, h⟩

theorem linkCheck_next {rs : RegNum} {k : Result} (h : linkCheck rs k = .next t) :
    rs ≠ 31 ∧ k = .next t := by
  unfold linkCheck at h
  split at h
  · cases h
  · next hc => exact ⟨hc, h⟩

/-! ### Results in general registers -/

theorem State.writeX_next {r : RegNum} {v : Word} (h : s.writeX r v = .next t) :
    t = (s.setX r v).complete := by cases h; rfl

theorem State.writeWord_next {b : Bool} {r : RegNum} {v : BitVec 32}
    (h : s.writeWord b r v = .next t) :
    t = (s.setX r (wordResult v)).complete ∨ t = (s.undefX r).complete := by
  unfold State.writeWord at h
  split at h
  · exact .inl (State.writeX_next h)
  · cases h; exact .inr rfl

theorem State.addWord_next {b : Bool} {r : RegNum} {x : Int} (h : s.addWord b r x = .next t) :
    t = (s.setX r (wordResult (BitVec.ofInt 32 x))).complete ∨ t = (s.undefX r).complete ∨
      t = s.raise .integerOverflow := by
  unfold State.addWord at h
  split at h
  · split at h
    · exact .inl (State.writeX_next h)
    · cases h; exact .inr (.inr rfl)
  · split at h
    · cases h; exact .inr (.inr rfl)
    · cases h; exact .inr (.inl rfl)

theorem State.addDouble_next {r : RegNum} {x : Int} (h : s.addDouble r x = .next t) :
    t = (s.setX r (BitVec.ofInt 64 x)).complete ∨ t = s.raise .integerOverflow := by
  unfold State.addDouble at h
  split at h
  · exact .inl (State.writeX_next h)
  · cases h; exact .inr rfl

theorem State.writeHiLo_next {hi lo : Reg} (h : s.writeHiLo hi lo = .next t) :
    s.hiRd = .none ∧ s.loRd = .none ∧ t = (s.putHiLo hi lo).complete := by
  unfold State.writeHiLo at h
  split at h
  · next hc => cases h; exact ⟨hc.1, hc.2, rfl⟩
  · cases h

theorem State.writeHiLoWords_next {b : Bool} {hi lo : BitVec 32}
    (h : s.writeHiLoWords b hi lo = .next t) :
    s.hiRd = .none ∧ s.loRd = .none ∧ ∃ c d, t = (s.putHiLo c d).complete := by
  unfold State.writeHiLoWords at h
  split at h
  all_goals
    obtain ⟨h1, h2, rfl⟩ := State.writeHiLo_next h
    exact ⟨h1, h2, _, _, rfl⟩

theorem State.trapIf_next {b : Bool} (h : s.trapIf b = .next t) :
    (b = true ∧ t = s.raise .trap) ∨ (b = false ∧ t = s.complete) := by
  unfold State.trapIf at h
  split at h
  · next hc => cases h; exact .inl ⟨hc, rfl⟩
  · next hc => cases h; exact .inr ⟨by simpa using hc, rfl⟩

/-! ### Memory access -/

theorem State.locate_ok {va first : Word} {n : Nat} {k : Access} {as : List Nat}
    (h : s.locate va first n k = .ok as) :
    ∃ pa cca, s.translated va k = .ok (pa, cca) ∧ as = s.physBytes (pa + (first - va)) n ∧
      s.backed as = true := by
  unfold State.locate at h
  split at h
  · cases h
  · next pa cca ht =>
    dsimp only at h
    split at h
    · next hb => cases h; exact ⟨pa, cca, ht, rfl, hb⟩
    · cases h

theorem State.locate_error {va first : Word} {n : Nat} {k : Access} {e : Exc}
    (h : s.locate va first n k = .error e) :
    s.translated va k = .error e ∨ e = .busError va k := by
  unfold State.locate at h
  split at h
  · next e' ht => cases h; exact .inl ht
  · dsimp only at h
    split at h
    · cases h
    · cases h; exact .inr rfl

@[simp] theorem State.physBytes_length (pa : Word) (n : Nat) : (s.physBytes pa n).length = n := by
  simp [State.physBytes]

theorem State.locate_length {va first : Word} {n : Nat} {k : Access} {as : List Nat}
    (h : s.locate va first n k = .ok as) : as.length = n := by
  obtain ⟨pa, cca, -, rfl, -⟩ := State.locate_ok h
  exact State.physBytes_length _ _

/-- Every byte of an access lies in the physical address space. -/
theorem State.locate_lt {va first : Word} {n : Nat} {k : Access} {as : List Nat}
    (h : s.locate va first n k = .ok as) {a : Nat} (ha : a ∈ as) : a < 2 ^ s.cfg.psize := by
  obtain ⟨pa, cca, -, rfl, -⟩ := State.locate_ok h
  simp only [State.physBytes, List.mem_map] at ha
  obtain ⟨i, -, rfl⟩ := ha
  exact Nat.mod_lt _ (by positivity)

/-- The bytes of an access are distinct. -/
theorem State.physBytes_nodup (pa : Word) {n : Nat} (hn : n ≤ 8) (h8 : 8 ≤ s.cfg.psize) :
    (s.physBytes pa n).Nodup := by
  unfold State.physBytes
  rw [List.nodup_map_iff_inj_on List.nodup_range]
  intro i hi j hj h
  simp only [List.mem_range] at hi hj
  have hd : (256 : Nat) ∣ 2 ^ s.cfg.psize := by
    have := pow_dvd_pow 2 h8
    norm_num at this
    exact this
  have h2 := congrArg (· % 256) h
  simp only [State.physByte, Nat.mod_mod_of_dvd _ hd] at h2
  have h3 : ((pa + BitVec.ofNat 64 i) ^^^ (if s.cfg.reverseEndian then 7 else 0)).setWidth 8 =
      ((pa + BitVec.ofNat 64 j) ^^^ (if s.cfg.reverseEndian then 7 else 0)).setWidth 8 := by
    rw [← BitVec.toNat_inj, BitVec.toNat_setWidth, BitVec.toNat_setWidth]
    exact h2
  rw [BitVec.setWidth_xor, BitVec.setWidth_xor, BitVec.xor_left_inj] at h3
  have h4 := congrArg BitVec.toNat h3
  simp only [BitVec.toNat_setWidth, BitVec.toNat_add, BitVec.toNat_ofNat] at h4
  omega

theorem State.locate_nodup {va first : Word} {n : Nat} {k : Access} {as : List Nat}
    (h : s.locate va first n k = .ok as) (hn : n ≤ 8) (h8 : 8 ≤ s.cfg.psize) : as.Nodup := by
  obtain ⟨pa, cca, -, rfl, -⟩ := State.locate_ok h
  exact State.physBytes_nodup _ hn h8

theorem aligned_iff (va : Word) (n : Nat) : aligned va n = true ↔ va.toNat % n = 0 := by
  simp [aligned]

theorem State.readBytes_ok {va first : Word} {n : Nat} {bs : List Byte}
    (h : s.readBytes va first n = .ok bs) :
    ∃ as, s.locate va first n .load = .ok as ∧ bs = as.map s.readByte := by
  unfold State.readBytes at h
  split at h
  · cases h
  · next as ha => cases h; exact ⟨as, ha, rfl⟩

theorem State.memRead_ok {va : Word} {n : Nat} {v : Word} (h : s.memRead va n = .ok v) :
    va.toNat % n = 0 ∧ ∃ as, s.locate va va n .load = .ok as ∧
      v = valueOfBytes s.bigEndianCpu (as.map s.readByte) := by
  unfold State.memRead at h
  split at h
  · next ha =>
    split at h
    · cases h
    · next bs hb =>
      cases h
      obtain ⟨as, hl, rfl⟩ := State.readBytes_ok hb
      exact ⟨(aligned_iff _ _).mp ha, as, hl, rfl⟩
  · cases h

theorem State.writeBytes_ok {va first : Word} {bs : List Byte} (h : s.writeBytes va first bs = .ok t) :
    ∃ as, s.locate va first bs.length .store = .ok as ∧ t = s.writeCells (as.zip bs) := by
  unfold State.writeBytes at h
  split at h
  · cases h
  · next as ha => cases h; exact ⟨as, ha, rfl⟩

@[simp] theorem bytesOfValue_length (big : Bool) (v : Word) (n : Nat) :
    (bytesOfValue big v n).length = n := by
  unfold bytesOfValue
  cases big <;> simp

theorem State.memWrite_ok {va : Word} {n : Nat} {v : Word} (h : s.memWrite va n v = .ok t) :
    va.toNat % n = 0 ∧ ∃ as, s.locate va va n .store = .ok as ∧
      t = s.writeCells (as.zip (bytesOfValue s.bigEndianCpu v n)) := by
  unfold State.memWrite at h
  split at h
  · next ha =>
    obtain ⟨as, hl, rfl⟩ := State.writeBytes_ok h
    exact ⟨(aligned_iff _ _).mp ha, as, by simpa using hl, rfl⟩
  · cases h

theorem State.load_next {va : Word} {n : Nat} {f : State → Word → State}
    (h : s.load va n f = .next t) :
    (∃ e, s.memRead va n = .error e ∧ t = s.raise e) ∨
      ∃ v, s.memRead va n = .ok v ∧ t = (f s.disturbLink v).complete := by
  unfold State.load at h
  split at h
  · next e he => cases h; exact .inl ⟨e, he, rfl⟩
  · next v hv => cases h; exact .inr ⟨v, hv, rfl⟩

theorem State.loadPart_next {va first : Word} {n : Nat} {f : State → Word → State}
    (h : s.loadPart va first n f = .next t) :
    (∃ e, s.readBytes va first n = .error e ∧ t = s.raise e) ∨
      ∃ bs, s.readBytes va first n = .ok bs ∧
        t = (f s.disturbLink (valueOfBytes s.bigEndianCpu bs)).complete := by
  unfold State.loadPart at h
  split at h
  · next e he => cases h; exact .inl ⟨e, he, rfl⟩
  · next bs hb => cases h; exact .inr ⟨bs, hb, rfl⟩

theorem State.finishStore_next {r : Except Exc State} (h : s.finishStore r = .next t) :
    (∃ e, r = .error e ∧ t = s.raise e) ∨ ∃ u, r = .ok u ∧ t = u.disturbLink.complete := by
  unfold State.finishStore at h
  split at h
  · cases h; exact .inl ⟨_, rfl, rfl⟩
  · cases h; exact .inr ⟨_, rfl, rfl⟩

theorem State.store_next {va : Word} {n : Nat} {v : Word} (h : s.store va n v = .next t) :
    (∃ e, s.memWrite va n v = .error e ∧ t = s.raise e) ∨
      ∃ u, s.memWrite va n v = .ok u ∧ t = u.disturbLink.complete :=
  State.finishStore_next h

theorem State.memWriteUndef_ok {va : Word} {n : Nat} (h : s.memWriteUndef va n = .ok t) :
    va.toNat % n = 0 ∧ ∃ as, s.locate va va n .store = .ok as ∧ t = s.undefCells as := by
  unfold State.memWriteUndef at h
  split at h
  · next ha =>
    split at h
    · cases h
    · next as hl => cases h; exact ⟨(aligned_iff _ _).mp ha, as, hl, rfl⟩
  · cases h

theorem State.storeUndef_next {va : Word} {n : Nat} (h : s.storeUndef va n = .next t) :
    (∃ e, s.memWriteUndef va n = .error e ∧ t = s.raise e) ∨
      ∃ u, s.memWriteUndef va n = .ok u ∧ t = u.disturbLink.complete :=
  State.finishStore_next h

theorem State.storeFprDouble_next {site : DrawSite} {n : RegNum} {va : Word}
    (h : s.storeFprDouble site n va = .next t) :
    (s.validFpr n = true ∧ s.store va 8 (s.fgrDouble site n) = .next t) ∨
      (s.validFpr n = false ∧ s.storeUndef va 8 = .next t) := by
  unfold State.storeFprDouble at h
  split at h
  · next hv => exact .inl ⟨hv, h⟩
  · next hv => exact .inr ⟨by simpa using hv, h⟩

theorem State.indexedStore_next {va : Word} {base : RegNum} {n : Nat} {k : Result}
    (h : s.indexedStore va base n k = .next t) : k = .next t ∨ s.storeUndef va n = .next t := by
  unfold State.indexedStore at h
  split at h
  · exact .inl h
  · exact .inr h

theorem State.storePart_next {va first : Word} {n : Nat} {v : Word}
    (h : s.storePart va first n v = .next t) :
    (∃ e, s.writeBytes va first (bytesOfValue s.bigEndianCpu v n) = .error e ∧ t = s.raise e) ∨
      ∃ u, s.writeBytes va first (bytesOfValue s.bigEndianCpu v n) = .ok u ∧
        t = u.disturbLink.complete := by
  unfold State.storePart at h
  split at h
  · next e he => cases h; exact .inl ⟨e, he, rfl⟩
  · next u hu => cases h; exact .inr ⟨u, hu, rfl⟩

theorem State.loadLinked_next {va : Word} {n : Nat} {f : State → Word → State}
    (h : s.loadLinked va n f = .next t) :
    (∃ e, s.memRead va n = .error e ∧ t = s.raise e) ∨
      ∃ v, s.memRead va n = .ok v ∧ t = ((f s v).setLink va n).complete := by
  unfold State.loadLinked at h
  split at h
  · next e he => cases h; exact .inl ⟨e, he, rfl⟩
  · next v hv => cases h; exact .inr ⟨v, hv, rfl⟩

theorem State.storeConditional_next {rt : RegNum} {va : Word} {n : Nat}
    (h : s.storeConditional rt va n = .next t) :
    (∃ e, t = s.raise e) ∨ t = ({ s.setX rt 0 with llBit := false } : State).complete ∨
      ∃ u, s.memWrite va n (s.x .rt rt) = .ok u ∧
        t = ({ u.setX rt 1 with llBit := false } : State).complete := by
  unfold State.storeConditional at h
  split at h
  · split at h
    · cases h; exact .inl ⟨_, rfl⟩
    · split at h
      · split at h
        · cases h; exact .inl ⟨_, rfl⟩
        · next u hu => cases h; exact .inr (.inr ⟨u, hu, rfl⟩)
      · cases h; exact .inr (.inl rfl)
  · cases h; exact .inl ⟨_, rfl⟩

theorem State.loadCop2_next {va : Word} {n : Nat} (h : s.loadCop2 va n = .next t) :
    ∃ e, s.memRead va n = .error e ∧ t = s.raise e := by
  unfold State.loadCop2 at h
  split at h
  · next e he => cases h; exact ⟨e, he, rfl⟩
  · cases h

theorem State.storeCop2_next {va : Word} {n : Nat} (h : s.storeCop2 va n = .next t) :
    ∃ e, t = s.raise e := by
  unfold State.storeCop2 at h
  split at h
  · split at h
    · cases h; exact ⟨_, rfl⟩
    · cases h
  · cases h; exact ⟨_, rfl⟩

/-! ### Finishing an operation of the FPU -/

theorem State.fpResult_next {u : State} {c : Conds} {f : State → State}
    (h : s.fpResult u c f = .next t) :
    (fpTraps s.fcsr c = true ∧
        t = ({ s with fcsr := setCause s.fcsr c } : State).raise .floatingPoint) ∨
      (fpTraps s.fcsr c = false ∧
        t = (f { u with fcsr := addFlags (setCause u.fcsr c) c }).complete) := by
  unfold State.fpResult at h
  cases h
  split
  · next hc => exact .inl ⟨hc, rfl⟩
  · next hc => exact .inr ⟨by simpa using hc, rfl⟩

theorem State.fpFinish_next {u : State} {op : FpOp} {fmt : Fmt} {a b d : Word} {c : Conds}
    {f : State → State} (h : s.fpFinish u op fmt a b d c f = .next t) :
    ∃ c', (c' = if s.claimed op fmt a b d then condE else c) ∧ s.fpResult u c' f = .next t := by
  exact ⟨_, rfl, h⟩

theorem State.fpUnary_next {op : FpOp} {src dst : Fmt} {f : Word → Word × Conds} {fd fs : RegNum}
    (h : s.fpUnary op src dst f fd fs = .next t) :
    (s.cfg.cu1 = false ∧ t = s.raise (.coprocessorUnusable 1)) ∨
      (s.cfg.cu1 = true ∧ ∃ a u, (a, u) = s.valueFpr .fs fs src ∧
        s.fpFinish u op src a 0 0 (f a).2 (fun v => v.storeFpr fd dst (f a).1) = .next t) := by
  rcases State.withCu1_next h with ⟨hc, h⟩ | h
  · exact .inr ⟨hc, _, _, rfl, h⟩
  · exact .inl h

theorem State.fpBinary_next {op : FpOp} {fmt : Fmt} {f : Word → Word → Word × Conds}
    {fd fs ft : RegNum} (h : s.fpBinary op fmt f fd fs ft = .next t) :
    (s.cfg.cu1 = false ∧ t = s.raise (.coprocessorUnusable 1)) ∨
      (s.cfg.cu1 = true ∧ ∃ a b u v, (a, u) = s.valueFpr .fs fs fmt ∧
        (b, v) = u.valueFpr .ft ft fmt ∧
        s.fpFinish v op fmt a b 0 (f a b).2 (fun w => w.storeFpr fd fmt (f a b).1) = .next t) := by
  rcases State.withCu1_next h with ⟨hc, h⟩ | h
  · exact .inr ⟨hc, _, _, _, _, rfl, rfl, h⟩
  · exact .inl h

theorem State.fpTernary_next {op : FpOp} {fmt : Fmt} {f : Word → Word → Word → Word × Conds}
    {fd fr fs ft : RegNum} (h : s.fpTernary op fmt f fd fr fs ft = .next t) :
    (s.cfg.cu1 = false ∧ t = s.raise (.coprocessorUnusable 1)) ∨
      (s.cfg.cu1 = true ∧ ∃ d a b u v w, (d, u) = s.valueFpr .fr fr fmt ∧
        (a, v) = u.valueFpr .fs fs fmt ∧ (b, w) = v.valueFpr .ft ft fmt ∧
        s.fpFinish w op fmt d a b (f d a b).2 (fun z => z.storeFpr fd fmt (f d a b).1) = .next t) := by
  rcases State.withCu1_next h with ⟨hc, h⟩ | h
  · exact .inr ⟨hc, _, _, _, _, _, _, rfl, rfl, rfl, h⟩
  · exact .inl h

theorem State.fpCompareOp_next {cond : BitVec 4} {fmt : Fmt} {cc : BitVec 3} {fs ft : RegNum}
    (h : s.fpCompareOp cond fmt cc fs ft = .next t) :
    (s.cfg.cu1 = false ∧ t = s.raise (.coprocessorUnusable 1)) ∨
      (s.cfg.cu1 = true ∧ ∃ a b u v, (a, u) = s.valueFpr .fs fs fmt ∧
        (b, v) = u.valueFpr .ft ft fmt ∧
        s.fpFinish v (.compare cond) fmt a b 0 (fpCompare cond fmt a b).2
          (fun w => w.setFcc cc (fpCompare cond fmt a b).1) = .next t) := by
  rcases State.withCu1_next h with ⟨hc, h⟩ | h
  · exact .inr ⟨hc, _, _, _, _, rfl, rfl, h⟩
  · exact .inl h

/-- What a formatted move from FPR `src`, read through `site`, leads to. -/
def State.Moved (s t : State) (op : FpOp) (fmt : Fmt) (fd src : RegNum) (site : DrawSite) : Prop :=
  ∃ v u, (v, u) = s.valueFpr site src fmt ∧
    ((s.claimed op fmt v 0 0 = true ∧
        t = ({ s with fcsr := setCause s.fcsr condE } : State).raise .floatingPoint) ∨
      (s.claimed op fmt v 0 0 = false ∧ t = (u.storeFpr fd fmt v).complete))

theorem State.moveFpr_next {op : FpOp} {fmt : Fmt} {fd src : RegNum} {site : DrawSite}
    (h : s.moveFpr op fmt fd src site = .next t) : s.Moved t op fmt fd src site := by
  unfold State.moveFpr at h
  dsimp only at h
  cases h
  refine ⟨(s.valueFpr site src fmt).1, (s.valueFpr site src fmt).2, rfl, ?_⟩
  by_cases hc : s.claimed op fmt (s.valueFpr site src fmt).1 0 0 = true
  · exact .inl ⟨hc, if_pos hc⟩
  · exact .inr ⟨Bool.eq_false_iff.mpr hc, if_neg hc⟩

theorem State.moveFprIf_next {op : FpOp} {b : Bool} {fmt : Fmt} {fd fs : RegNum}
    (h : s.moveFprIf op b fmt fd fs = .next t) :
    (s.cfg.cu1 = false ∧ t = s.raise (.coprocessorUnusable 1)) ∨
      (s.cfg.cu1 = true ∧
        if b then s.Moved t op fmt fd fs .fs else s.Moved t op fmt fd fd .fd) := by
  rcases State.withCu1_next h with ⟨hc, h⟩ | h
  · refine .inr ⟨hc, ?_⟩
    cases b
    · exact State.moveFpr_next h
    · exact State.moveFpr_next h
  · exact .inl h

/-! ### The step -/

theorem State.badWord_next {e : DecodeError} (h : s.badWord e = .next t) :
    (∃ x, x ≠ .floatingPoint ∧ t = s.raise x) ∨
      t = ({ s with fcsr := (s.fcsr &&& ~~~0x3f000#32) ||| 0x20000 } : State).raise .floatingPoint := by
  unfold State.badWord at h
  split at h
  all_goals try (cases h; exact .inl ⟨_, by simp, rfl⟩)
  all_goals
    rcases State.withCu1_next h with ⟨-, h⟩ | ⟨-, rfl⟩
    · first
      | (cases h; exact .inl ⟨_, by simp, rfl⟩)
      | (split at h <;> cases h
         · exact .inl ⟨_, by simp, rfl⟩
         · exact .inr rfl)
    · exact .inl ⟨_, by simp, rfl⟩

/-- The data the model checks before it lets a Handler's state stand is the invariant. -/
theorem State.inv_of_legal (h : s.legal = true) (ht : s.trap = none) : s.Inv := by
  unfold State.legal at h
  simp only [Bool.and_eq_true, Bool.or_eq_true, List.all_eq_true, decide_eq_true_eq, beq_iff_eq,
    List.mem_append, Vector.mem_toList_iff, List.contains_iff_mem, Bool.not_eq_true',
    List.mem_finRange, forall_const] at h
  obtain ⟨⟨⟨⟨⟨⟨⟨⟨⟨⟨⟨h1, h2⟩, h3⟩, h4⟩, h5⟩, h6⟩, h7⟩, h8⟩, h9⟩, h10⟩, h11⟩, h12⟩ := h
  exact
    { mem := h1
      memRange := h2
      stored := h3
      storedRange := h4
      undefMem := h5
      undefStored := h6
      x0 := h7
      fcsr := h8
      slot := fun hb => by simpa [hb] using h9
      trapped := fun hs => by simp [ht] at hs
      link := fun hl => by simpa [hl] using h10
      clean := ⟨fun r => h11 _ (.inl (.inl (Vector.getElem_mem _))), h11 _ (.inr (by simp)),
        h11 _ (.inr (by simp)), fun r => h11 _ (.inl (.inr (Vector.getElem_mem _)))⟩
      narrow := fun hc n => by
        simp only [hc, Bool.false_eq_true, false_or] at h12
        exact h12.1 _ (Vector.getElem_mem _)
      oddTags := fun hc n hn => by
        simp only [hc, Bool.false_eq_true, false_or] at h12
        exact (h12.2 n).resolve_left (by omega) }

/-- What a client's Handler may do with a trapped machine. -/
theorem State.handle_next (h : s.handle = .next t) :
    s.cfg.handler = .part ∧ t.trap = none ∧ t.cfg = s.cfg ∧ t.intPending = s.intPending ∧
      t.legal = true := by
  unfold State.handle at h
  split at h
  · cases h
  · next hp =>
    split at h
    · cases h
    · dsimp only at h
      split at h
      · next hl => cases h; exact ⟨hp, rfl, rfl, rfl, hl⟩
      · cases h

/-- What a step that answers a next state has done. -/
theorem step_next (h : step s = .next t) :
    (s.trap ≠ none ∧ s.handle = .next t) ∨
      (s.trap = none ∧
        ((s.interrupted = true ∧ t = s.popInterrupt.raise .interrupt) ∨
          (s.interrupted = false ∧
            ((∃ e, t = s.popInterrupt.raise e) ∨
              (∃ bs i, s.popInterrupt.fetch = .ok bs ∧ decodeBytes s.bigEndianCpu bs = .ok i ∧
                exec i s.popInterrupt = .next t) ∨
              ∃ e, s.popInterrupt.badWord e = .next t)))) := by
  unfold step at h
  split at h
  · next ht => exact .inl ⟨by intro e; simp [e] at ht, h⟩
  · next ht =>
    refine .inr ⟨by simpa using ht, ?_⟩
    split at h
    · next hi => cases h; exact .inl ⟨hi, rfl⟩
    · next hi =>
      refine .inr ⟨by simpa using hi, ?_⟩
      split at h
      · next r hr =>
        subst h
        refine .inl ?_
        unfold State.fetch at hr
        split at hr
        · split at hr
          · cases hr; exact ⟨_, rfl⟩
          · split at hr <;> cases hr
        · cases hr; exact ⟨_, rfl⟩
      · next bs hb =>
        split at h
        · next i hd => exact .inr (.inl ⟨bs, i, hb, hd, h⟩)
        · exact .inr (.inr ⟨_, h⟩)

end Sys2Proof.Machine
end

