-- ==== Sys2Proof/Laws/PerInstr.lean ====
section
/-! SUPPORT. Statements made for every instruction, as syntax. -/

namespace Sys2Proof.Laws.Opcode

/-- The primary opcode of an instruction, from the opcode map (30_encoding.md R139). -/
def primary : Instr → BitVec 6
  | .addi .. => 0x08#6
  | .addiu .. => 0x09#6
  | .slti .. => 0x0a#6
  | .sltiu .. => 0x0b#6
  | .andi .. => 0x0c#6
  | .ori .. => 0x0d#6
  | .xori .. => 0x0e#6
  | .lui .. => 0x0f#6
  | .daddi .. => 0x18#6
  | .daddiu .. => 0x19#6
  | .lb .. => 0x20#6
  | .lbu .. => 0x24#6
  | .lh .. => 0x21#6
  | .lhu .. => 0x25#6
  | .lw .. => 0x23#6
  | .lwu .. => 0x27#6
  | .ld .. => 0x37#6
  | .sb .. => 0x28#6
  | .sh .. => 0x29#6
  | .sw .. => 0x2b#6
  | .sd .. => 0x3f#6
  | .lwl .. => 0x22#6
  | .lwr .. => 0x26#6
  | .swl .. => 0x2a#6
  | .swr .. => 0x2e#6
  | .ldl .. => 0x1a#6
  | .ldr .. => 0x1b#6
  | .sdl .. => 0x2c#6
  | .sdr .. => 0x2d#6
  | .ll .. => 0x30#6
  | .lld .. => 0x34#6
  | .sc .. => 0x38#6
  | .scd .. => 0x3c#6
  | .lwc2 .. => 0x32#6
  | .ldc2 .. => 0x36#6
  | .swc2 .. => 0x3a#6
  | .sdc2 .. => 0x3e#6
  | .pref .. => 0x33#6
  | .lwc1 .. => 0x31#6
  | .ldc1 .. => 0x35#6
  | .swc1 .. => 0x39#6
  | .sdc1 .. => 0x3d#6
  | .add .. => 0x00#6
  | .addu .. => 0x00#6
  | .sub .. => 0x00#6
  | .subu .. => 0x00#6
  | .and .. => 0x00#6
  | .or .. => 0x00#6
  | .xor .. => 0x00#6
  | .nor .. => 0x00#6
  | .slt .. => 0x00#6
  | .sltu .. => 0x00#6
  | .dadd .. => 0x00#6
  | .daddu .. => 0x00#6
  | .dsub .. => 0x00#6
  | .dsubu .. => 0x00#6
  | .movz .. => 0x00#6
  | .movn .. => 0x00#6
  | .sll .. => 0x00#6
  | .srl .. => 0x00#6
  | .sra .. => 0x00#6
  | .dsll .. => 0x00#6
  | .dsrl .. => 0x00#6
  | .dsra .. => 0x00#6
  | .dsll32 .. => 0x00#6
  | .dsrl32 .. => 0x00#6
  | .dsra32 .. => 0x00#6
  | .sllv .. => 0x00#6
  | .srlv .. => 0x00#6
  | .srav .. => 0x00#6
  | .dsllv .. => 0x00#6
  | .dsrlv .. => 0x00#6
  | .dsrav .. => 0x00#6
  | .mult .. => 0x00#6
  | .multu .. => 0x00#6
  | .div .. => 0x00#6
  | .divu .. => 0x00#6
  | .dmult .. => 0x00#6
  | .dmultu .. => 0x00#6
  | .ddiv .. => 0x00#6
  | .ddivu .. => 0x00#6
  | .mfhi .. => 0x00#6
  | .mthi .. => 0x00#6
  | .mflo .. => 0x00#6
  | .mtlo .. => 0x00#6
  | .jr .. => 0x00#6
  | .jalr .. => 0x00#6
  | .syscall .. => 0x00#6
  | .brk .. => 0x00#6
  | .sync .. => 0x00#6
  | .tge .. => 0x00#6
  | .tgeu .. => 0x00#6
  | .tlt .. => 0x00#6
  | .tltu .. => 0x00#6
  | .teq .. => 0x00#6
  | .tne .. => 0x00#6
  | .movf .. => 0x00#6
  | .movt .. => 0x00#6
  | .bltz .. => 0x01#6
  | .bgez .. => 0x01#6
  | .bltzl .. => 0x01#6
  | .bgezl .. => 0x01#6
  | .bltzal .. => 0x01#6
  | .bgezal .. => 0x01#6
  | .bltzall .. => 0x01#6
  | .bgezall .. => 0x01#6
  | .tgei .. => 0x01#6
  | .tgeiu .. => 0x01#6
  | .tlti .. => 0x01#6
  | .tltiu .. => 0x01#6
  | .teqi .. => 0x01#6
  | .tnei .. => 0x01#6
  | .j .. => 0x02#6
  | .jal .. => 0x03#6
  | .beq .. => 0x04#6
  | .bne .. => 0x05#6
  | .blez .. => 0x06#6
  | .bgtz .. => 0x07#6
  | .beql .. => 0x14#6
  | .bnel .. => 0x15#6
  | .blezl .. => 0x16#6
  | .bgtzl .. => 0x17#6
  | .cop0 .. => 0x10#6
  | .cop2 .. => 0x12#6
  | .mfc1 .. => 0x11#6
  | .dmfc1 .. => 0x11#6
  | .cfc1 .. => 0x11#6
  | .mtc1 .. => 0x11#6
  | .dmtc1 .. => 0x11#6
  | .ctc1 .. => 0x11#6
  | .bc1f .. => 0x11#6
  | .bc1t .. => 0x11#6
  | .bc1fl .. => 0x11#6
  | .bc1tl .. => 0x11#6
  | .addS .. => 0x11#6
  | .addD .. => 0x11#6
  | .subS .. => 0x11#6
  | .subD .. => 0x11#6
  | .mulS .. => 0x11#6
  | .mulD .. => 0x11#6
  | .divS .. => 0x11#6
  | .divD .. => 0x11#6
  | .sqrtS .. => 0x11#6
  | .sqrtD .. => 0x11#6
  | .absS .. => 0x11#6
  | .absD .. => 0x11#6
  | .movS .. => 0x11#6
  | .movD .. => 0x11#6
  | .negS .. => 0x11#6
  | .negD .. => 0x11#6
  | .roundLS .. => 0x11#6
  | .roundLD .. => 0x11#6
  | .truncLS .. => 0x11#6
  | .truncLD .. => 0x11#6
  | .ceilLS .. => 0x11#6
  | .ceilLD .. => 0x11#6
  | .floorLS .. => 0x11#6
  | .floorLD .. => 0x11#6
  | .roundWS .. => 0x11#6
  | .roundWD .. => 0x11#6
  | .truncWS .. => 0x11#6
  | .truncWD .. => 0x11#6
  | .ceilWS .. => 0x11#6
  | .ceilWD .. => 0x11#6
  | .floorWS .. => 0x11#6
  | .floorWD .. => 0x11#6
  | .recipS .. => 0x11#6
  | .recipD .. => 0x11#6
  | .rsqrtS .. => 0x11#6
  | .rsqrtD .. => 0x11#6
  | .movfS .. => 0x11#6
  | .movtS .. => 0x11#6
  | .movzS .. => 0x11#6
  | .movnS .. => 0x11#6
  | .movfD .. => 0x11#6
  | .movtD .. => 0x11#6
  | .movzD .. => 0x11#6
  | .movnD .. => 0x11#6
  | .cvtSD .. => 0x11#6
  | .cvtSW .. => 0x11#6
  | .cvtSL .. => 0x11#6
  | .cvtDS .. => 0x11#6
  | .cvtDW .. => 0x11#6
  | .cvtDL .. => 0x11#6
  | .cvtWS .. => 0x11#6
  | .cvtWD .. => 0x11#6
  | .cvtLS .. => 0x11#6
  | .cvtLD .. => 0x11#6
  | .cFS .. => 0x11#6
  | .cUnS .. => 0x11#6
  | .cEqS .. => 0x11#6
  | .cUeqS .. => 0x11#6
  | .cOltS .. => 0x11#6
  | .cUltS .. => 0x11#6
  | .cOleS .. => 0x11#6
  | .cUleS .. => 0x11#6
  | .cSfS .. => 0x11#6
  | .cNgleS .. => 0x11#6
  | .cSeqS .. => 0x11#6
  | .cNglS .. => 0x11#6
  | .cLtS .. => 0x11#6
  | .cNgeS .. => 0x11#6
  | .cLeS .. => 0x11#6
  | .cNgtS .. => 0x11#6
  | .cFD .. => 0x11#6
  | .cUnD .. => 0x11#6
  | .cEqD .. => 0x11#6
  | .cUeqD .. => 0x11#6
  | .cOltD .. => 0x11#6
  | .cUltD .. => 0x11#6
  | .cOleD .. => 0x11#6
  | .cUleD .. => 0x11#6
  | .cSfD .. => 0x11#6
  | .cNgleD .. => 0x11#6
  | .cSeqD .. => 0x11#6
  | .cNglD .. => 0x11#6
  | .cLtD .. => 0x11#6
  | .cNgeD .. => 0x11#6
  | .cLeD .. => 0x11#6
  | .cNgtD .. => 0x11#6
  | .lwxc1 .. => 0x13#6
  | .ldxc1 .. => 0x13#6
  | .swxc1 .. => 0x13#6
  | .sdxc1 .. => 0x13#6
  | .prefx .. => 0x13#6
  | .maddS .. => 0x13#6
  | .maddD .. => 0x13#6
  | .msubS .. => 0x13#6
  | .msubD .. => 0x13#6
  | .nmaddS .. => 0x13#6
  | .nmaddD .. => 0x13#6
  | .nmsubS .. => 0x13#6
  | .nmsubD .. => 0x13#6

/-- The encoded word carries the instruction's primary opcode in its bits 31..26. -/
def Statement (i : Instr) : Prop := opF (encode i) = primary i

theorem addi (rt : RegNum) (rs : RegNum) (imm : BitVec 16) :
    Statement (.addi rt rs imm) := opF_iForm ..
theorem addiu (rt : RegNum) (rs : RegNum) (imm : BitVec 16) :
    Statement (.addiu rt rs imm) := opF_iForm ..
theorem slti (rt : RegNum) (rs : RegNum) (imm : BitVec 16) :
    Statement (.slti rt rs imm) := opF_iForm ..
theorem sltiu (rt : RegNum) (rs : RegNum) (imm : BitVec 16) :
    Statement (.sltiu rt rs imm) := opF_iForm ..
theorem andi (rt : RegNum) (rs : RegNum) (imm : BitVec 16) :
    Statement (.andi rt rs imm) := opF_iForm ..
theorem ori (rt : RegNum) (rs : RegNum) (imm : BitVec 16) :
    Statement (.ori rt rs imm) := opF_iForm ..
theorem xori (rt : RegNum) (rs : RegNum) (imm : BitVec 16) :
    Statement (.xori rt rs imm) := opF_iForm ..
theorem lui (rt : RegNum) (imm : BitVec 16) :
    Statement (.lui rt imm) := opF_iForm ..
theorem daddi (rt : RegNum) (rs : RegNum) (imm : BitVec 16) :
    Statement (.daddi rt rs imm) := opF_iForm ..
theorem daddiu (rt : RegNum) (rs : RegNum) (imm : BitVec 16) :
    Statement (.daddiu rt rs imm) := opF_iForm ..
theorem lb (rt : RegNum) (offset : BitVec 16) (base : RegNum) :
    Statement (.lb rt offset base) := opF_iForm ..
theorem lbu (rt : RegNum) (offset : BitVec 16) (base : RegNum) :
    Statement (.lbu rt offset base) := opF_iForm ..
theorem lh (rt : RegNum) (offset : BitVec 16) (base : RegNum) :
    Statement (.lh rt offset base) := opF_iForm ..
theorem lhu (rt : RegNum) (offset : BitVec 16) (base : RegNum) :
    Statement (.lhu rt offset base) := opF_iForm ..
theorem lw (rt : RegNum) (offset : BitVec 16) (base : RegNum) :
    Statement (.lw rt offset base) := opF_iForm ..
theorem lwu (rt : RegNum) (offset : BitVec 16) (base : RegNum) :
    Statement (.lwu rt offset base) := opF_iForm ..
theorem ld (rt : RegNum) (offset : BitVec 16) (base : RegNum) :
    Statement (.ld rt offset base) := opF_iForm ..
theorem sb (rt : RegNum) (offset : BitVec 16) (base : RegNum) :
    Statement (.sb rt offset base) := opF_iForm ..
theorem sh (rt : RegNum) (offset : BitVec 16) (base : RegNum) :
    Statement (.sh rt offset base) := opF_iForm ..
theorem sw (rt : RegNum) (offset : BitVec 16) (base : RegNum) :
    Statement (.sw rt offset base) := opF_iForm ..
theorem sd (rt : RegNum) (offset : BitVec 16) (base : RegNum) :
    Statement (.sd rt offset base) := opF_iForm ..
theorem lwl (rt : RegNum) (offset : BitVec 16) (base : RegNum) :
    Statement (.lwl rt offset base) := opF_iForm ..
theorem lwr (rt : RegNum) (offset : BitVec 16) (base : RegNum) :
    Statement (.lwr rt offset base) := opF_iForm ..
theorem swl (rt : RegNum) (offset : BitVec 16) (base : RegNum) :
    Statement (.swl rt offset base) := opF_iForm ..
theorem swr (rt : RegNum) (offset : BitVec 16) (base : RegNum) :
    Statement (.swr rt offset base) := opF_iForm ..
theorem ldl (rt : RegNum) (offset : BitVec 16) (base : RegNum) :
    Statement (.ldl rt offset base) := opF_iForm ..
theorem ldr (rt : RegNum) (offset : BitVec 16) (base : RegNum) :
    Statement (.ldr rt offset base) := opF_iForm ..
theorem sdl (rt : RegNum) (offset : BitVec 16) (base : RegNum) :
    Statement (.sdl rt offset base) := opF_iForm ..
theorem sdr (rt : RegNum) (offset : BitVec 16) (base : RegNum) :
    Statement (.sdr rt offset base) := opF_iForm ..
theorem ll (rt : RegNum) (offset : BitVec 16) (base : RegNum) :
    Statement (.ll rt offset base) := opF_iForm ..
theorem lld (rt : RegNum) (offset : BitVec 16) (base : RegNum) :
    Statement (.lld rt offset base) := opF_iForm ..
theorem sc (rt : RegNum) (offset : BitVec 16) (base : RegNum) :
    Statement (.sc rt offset base) := opF_iForm ..
theorem scd (rt : RegNum) (offset : BitVec 16) (base : RegNum) :
    Statement (.scd rt offset base) := opF_iForm ..
theorem lwc2 (rt : RegNum) (offset : BitVec 16) (base : RegNum) :
    Statement (.lwc2 rt offset base) := opF_iForm ..
theorem ldc2 (rt : RegNum) (offset : BitVec 16) (base : RegNum) :
    Statement (.ldc2 rt offset base) := opF_iForm ..
theorem swc2 (rt : RegNum) (offset : BitVec 16) (base : RegNum) :
    Statement (.swc2 rt offset base) := opF_iForm ..
theorem sdc2 (rt : RegNum) (offset : BitVec 16) (base : RegNum) :
    Statement (.sdc2 rt offset base) := opF_iForm ..
theorem pref (hint : RegNum) (offset : BitVec 16) (base : RegNum) :
    Statement (.pref hint offset base) := opF_iForm ..
theorem lwc1 (ft : RegNum) (offset : BitVec 16) (base : RegNum) :
    Statement (.lwc1 ft offset base) := opF_iForm ..
theorem ldc1 (ft : RegNum) (offset : BitVec 16) (base : RegNum) :
    Statement (.ldc1 ft offset base) := opF_iForm ..
theorem swc1 (ft : RegNum) (offset : BitVec 16) (base : RegNum) :
    Statement (.swc1 ft offset base) := opF_iForm ..
theorem sdc1 (ft : RegNum) (offset : BitVec 16) (base : RegNum) :
    Statement (.sdc1 ft offset base) := opF_iForm ..
theorem add (rd : RegNum) (rs : RegNum) (rt : RegNum) :
    Statement (.add rd rs rt) := opF_rForm ..
theorem addu (rd : RegNum) (rs : RegNum) (rt : RegNum) :
    Statement (.addu rd rs rt) := opF_rForm ..
theorem sub (rd : RegNum) (rs : RegNum) (rt : RegNum) :
    Statement (.sub rd rs rt) := opF_rForm ..
theorem subu (rd : RegNum) (rs : RegNum) (rt : RegNum) :
    Statement (.subu rd rs rt) := opF_rForm ..
theorem and (rd : RegNum) (rs : RegNum) (rt : RegNum) :
    Statement (.and rd rs rt) := opF_rForm ..
theorem or (rd : RegNum) (rs : RegNum) (rt : RegNum) :
    Statement (.or rd rs rt) := opF_rForm ..
theorem xor (rd : RegNum) (rs : RegNum) (rt : RegNum) :
    Statement (.xor rd rs rt) := opF_rForm ..
theorem nor (rd : RegNum) (rs : RegNum) (rt : RegNum) :
    Statement (.nor rd rs rt) := opF_rForm ..
theorem slt (rd : RegNum) (rs : RegNum) (rt : RegNum) :
    Statement (.slt rd rs rt) := opF_rForm ..
theorem sltu (rd : RegNum) (rs : RegNum) (rt : RegNum) :
    Statement (.sltu rd rs rt) := opF_rForm ..
theorem dadd (rd : RegNum) (rs : RegNum) (rt : RegNum) :
    Statement (.dadd rd rs rt) := opF_rForm ..
theorem daddu (rd : RegNum) (rs : RegNum) (rt : RegNum) :
    Statement (.daddu rd rs rt) := opF_rForm ..
theorem dsub (rd : RegNum) (rs : RegNum) (rt : RegNum) :
    Statement (.dsub rd rs rt) := opF_rForm ..
theorem dsubu (rd : RegNum) (rs : RegNum) (rt : RegNum) :
    Statement (.dsubu rd rs rt) := opF_rForm ..
theorem movz (rd : RegNum) (rs : RegNum) (rt : RegNum) :
    Statement (.movz rd rs rt) := opF_rForm ..
theorem movn (rd : RegNum) (rs : RegNum) (rt : RegNum) :
    Statement (.movn rd rs rt) := opF_rForm ..
theorem sll (rd : RegNum) (rt : RegNum) (sa : RegNum) :
    Statement (.sll rd rt sa) := opF_rForm ..
theorem srl (rd : RegNum) (rt : RegNum) (sa : RegNum) :
    Statement (.srl rd rt sa) := opF_rForm ..
theorem sra (rd : RegNum) (rt : RegNum) (sa : RegNum) :
    Statement (.sra rd rt sa) := opF_rForm ..
theorem dsll (rd : RegNum) (rt : RegNum) (sa : RegNum) :
    Statement (.dsll rd rt sa) := opF_rForm ..
theorem dsrl (rd : RegNum) (rt : RegNum) (sa : RegNum) :
    Statement (.dsrl rd rt sa) := opF_rForm ..
theorem dsra (rd : RegNum) (rt : RegNum) (sa : RegNum) :
    Statement (.dsra rd rt sa) := opF_rForm ..
theorem dsll32 (rd : RegNum) (rt : RegNum) (sa : RegNum) :
    Statement (.dsll32 rd rt sa) := opF_rForm ..
theorem dsrl32 (rd : RegNum) (rt : RegNum) (sa : RegNum) :
    Statement (.dsrl32 rd rt sa) := opF_rForm ..
theorem dsra32 (rd : RegNum) (rt : RegNum) (sa : RegNum) :
    Statement (.dsra32 rd rt sa) := opF_rForm ..
theorem sllv (rd : RegNum) (rt : RegNum) (rs : RegNum) :
    Statement (.sllv rd rt rs) := opF_rForm ..
theorem srlv (rd : RegNum) (rt : RegNum) (rs : RegNum) :
    Statement (.srlv rd rt rs) := opF_rForm ..
theorem srav (rd : RegNum) (rt : RegNum) (rs : RegNum) :
    Statement (.srav rd rt rs) := opF_rForm ..
theorem dsllv (rd : RegNum) (rt : RegNum) (rs : RegNum) :
    Statement (.dsllv rd rt rs) := opF_rForm ..
theorem dsrlv (rd : RegNum) (rt : RegNum) (rs : RegNum) :
    Statement (.dsrlv rd rt rs) := opF_rForm ..
theorem dsrav (rd : RegNum) (rt : RegNum) (rs : RegNum) :
    Statement (.dsrav rd rt rs) := opF_rForm ..
theorem mult (rs : RegNum) (rt : RegNum) :
    Statement (.mult rs rt) := opF_rForm ..
theorem multu (rs : RegNum) (rt : RegNum) :
    Statement (.multu rs rt) := opF_rForm ..
theorem div (rs : RegNum) (rt : RegNum) :
    Statement (.div rs rt) := opF_rForm ..
theorem divu (rs : RegNum) (rt : RegNum) :
    Statement (.divu rs rt) := opF_rForm ..
theorem dmult (rs : RegNum) (rt : RegNum) :
    Statement (.dmult rs rt) := opF_rForm ..
theorem dmultu (rs : RegNum) (rt : RegNum) :
    Statement (.dmultu rs rt) := opF_rForm ..
theorem ddiv (rs : RegNum) (rt : RegNum) :
    Statement (.ddiv rs rt) := opF_rForm ..
theorem ddivu (rs : RegNum) (rt : RegNum) :
    Statement (.ddivu rs rt) := opF_rForm ..
theorem mfhi (rd : RegNum) :
    Statement (.mfhi rd) := opF_rForm ..
theorem mthi (rs : RegNum) :
    Statement (.mthi rs) := opF_rForm ..
theorem mflo (rd : RegNum) :
    Statement (.mflo rd) := opF_rForm ..
theorem mtlo (rs : RegNum) :
    Statement (.mtlo rs) := opF_rForm ..
theorem jr (rs : RegNum) :
    Statement (.jr rs) := opF_rForm ..
theorem jalr (rd : RegNum) (rs : RegNum) :
    Statement (.jalr rd rs) := opF_rForm ..
theorem syscall (code : BitVec 20) :
    Statement (.syscall code) := opF_cForm ..
theorem brk (code : BitVec 20) :
    Statement (.brk code) := opF_cForm ..
theorem sync (stype : RegNum) :
    Statement (.sync stype) := opF_rForm ..
theorem tge (rs : RegNum) (rt : RegNum) (code : BitVec 10) :
    Statement (.tge rs rt code) := opF_tForm ..
theorem tgeu (rs : RegNum) (rt : RegNum) (code : BitVec 10) :
    Statement (.tgeu rs rt code) := opF_tForm ..
theorem tlt (rs : RegNum) (rt : RegNum) (code : BitVec 10) :
    Statement (.tlt rs rt code) := opF_tForm ..
theorem tltu (rs : RegNum) (rt : RegNum) (code : BitVec 10) :
    Statement (.tltu rs rt code) := opF_tForm ..
theorem teq (rs : RegNum) (rt : RegNum) (code : BitVec 10) :
    Statement (.teq rs rt code) := opF_tForm ..
theorem tne (rs : RegNum) (rt : RegNum) (code : BitVec 10) :
    Statement (.tne rs rt code) := opF_tForm ..
theorem movf (rd : RegNum) (rs : RegNum) (cc : BitVec 3) :
    Statement (.movf rd rs cc) := opF_rForm ..
theorem movt (rd : RegNum) (rs : RegNum) (cc : BitVec 3) :
    Statement (.movt rd rs cc) := opF_rForm ..
theorem bltz (rs : RegNum) (offset : BitVec 16) :
    Statement (.bltz rs offset) := opF_iForm ..
theorem bgez (rs : RegNum) (offset : BitVec 16) :
    Statement (.bgez rs offset) := opF_iForm ..
theorem bltzl (rs : RegNum) (offset : BitVec 16) :
    Statement (.bltzl rs offset) := opF_iForm ..
theorem bgezl (rs : RegNum) (offset : BitVec 16) :
    Statement (.bgezl rs offset) := opF_iForm ..
theorem bltzal (rs : RegNum) (offset : BitVec 16) :
    Statement (.bltzal rs offset) := opF_iForm ..
theorem bgezal (rs : RegNum) (offset : BitVec 16) :
    Statement (.bgezal rs offset) := opF_iForm ..
theorem bltzall (rs : RegNum) (offset : BitVec 16) :
    Statement (.bltzall rs offset) := opF_iForm ..
theorem bgezall (rs : RegNum) (offset : BitVec 16) :
    Statement (.bgezall rs offset) := opF_iForm ..
theorem tgei (rs : RegNum) (imm : BitVec 16) :
    Statement (.tgei rs imm) := opF_iForm ..
theorem tgeiu (rs : RegNum) (imm : BitVec 16) :
    Statement (.tgeiu rs imm) := opF_iForm ..
theorem tlti (rs : RegNum) (imm : BitVec 16) :
    Statement (.tlti rs imm) := opF_iForm ..
theorem tltiu (rs : RegNum) (imm : BitVec 16) :
    Statement (.tltiu rs imm) := opF_iForm ..
theorem teqi (rs : RegNum) (imm : BitVec 16) :
    Statement (.teqi rs imm) := opF_iForm ..
theorem tnei (rs : RegNum) (imm : BitVec 16) :
    Statement (.tnei rs imm) := opF_iForm ..
theorem j (target : BitVec 26) :
    Statement (.j target) := opF_jForm ..
theorem jal (target : BitVec 26) :
    Statement (.jal target) := opF_jForm ..
theorem beq (rs : RegNum) (rt : RegNum) (offset : BitVec 16) :
    Statement (.beq rs rt offset) := opF_iForm ..
theorem bne (rs : RegNum) (rt : RegNum) (offset : BitVec 16) :
    Statement (.bne rs rt offset) := opF_iForm ..
theorem blez (rs : RegNum) (offset : BitVec 16) :
    Statement (.blez rs offset) := opF_iForm ..
theorem bgtz (rs : RegNum) (offset : BitVec 16) :
    Statement (.bgtz rs offset) := opF_iForm ..
theorem beql (rs : RegNum) (rt : RegNum) (offset : BitVec 16) :
    Statement (.beql rs rt offset) := opF_iForm ..
theorem bnel (rs : RegNum) (rt : RegNum) (offset : BitVec 16) :
    Statement (.bnel rs rt offset) := opF_iForm ..
theorem blezl (rs : RegNum) (offset : BitVec 16) :
    Statement (.blezl rs offset) := opF_iForm ..
theorem bgtzl (rs : RegNum) (offset : BitVec 16) :
    Statement (.bgtzl rs offset) := opF_iForm ..
theorem cop0 (cofun : BitVec 26) :
    Statement (.cop0 cofun) := opF_jForm ..
theorem cop2 (cofun : BitVec 26) :
    Statement (.cop2 cofun) := opF_jForm ..
theorem mfc1 (rt : RegNum) (fs : RegNum) :
    Statement (.mfc1 rt fs) := opF_rForm ..
theorem dmfc1 (rt : RegNum) (fs : RegNum) :
    Statement (.dmfc1 rt fs) := opF_rForm ..
theorem cfc1 (rt : RegNum) (fs : RegNum) :
    Statement (.cfc1 rt fs) := opF_rForm ..
theorem mtc1 (rt : RegNum) (fs : RegNum) :
    Statement (.mtc1 rt fs) := opF_rForm ..
theorem dmtc1 (rt : RegNum) (fs : RegNum) :
    Statement (.dmtc1 rt fs) := opF_rForm ..
theorem ctc1 (rt : RegNum) (fs : RegNum) :
    Statement (.ctc1 rt fs) := opF_rForm ..
theorem bc1f (cc : BitVec 3) (offset : BitVec 16) :
    Statement (.bc1f cc offset) := opF_iForm ..
theorem bc1t (cc : BitVec 3) (offset : BitVec 16) :
    Statement (.bc1t cc offset) := opF_iForm ..
theorem bc1fl (cc : BitVec 3) (offset : BitVec 16) :
    Statement (.bc1fl cc offset) := opF_iForm ..
theorem bc1tl (cc : BitVec 3) (offset : BitVec 16) :
    Statement (.bc1tl cc offset) := opF_iForm ..
theorem addS (fd : RegNum) (fs : RegNum) (ft : RegNum) :
    Statement (.addS fd fs ft) := opF_rForm ..
theorem addD (fd : RegNum) (fs : RegNum) (ft : RegNum) :
    Statement (.addD fd fs ft) := opF_rForm ..
theorem subS (fd : RegNum) (fs : RegNum) (ft : RegNum) :
    Statement (.subS fd fs ft) := opF_rForm ..
theorem subD (fd : RegNum) (fs : RegNum) (ft : RegNum) :
    Statement (.subD fd fs ft) := opF_rForm ..
theorem mulS (fd : RegNum) (fs : RegNum) (ft : RegNum) :
    Statement (.mulS fd fs ft) := opF_rForm ..
theorem mulD (fd : RegNum) (fs : RegNum) (ft : RegNum) :
    Statement (.mulD fd fs ft) := opF_rForm ..
theorem divS (fd : RegNum) (fs : RegNum) (ft : RegNum) :
    Statement (.divS fd fs ft) := opF_rForm ..
theorem divD (fd : RegNum) (fs : RegNum) (ft : RegNum) :
    Statement (.divD fd fs ft) := opF_rForm ..
theorem sqrtS (fd : RegNum) (fs : RegNum) :
    Statement (.sqrtS fd fs) := opF_rForm ..
theorem sqrtD (fd : RegNum) (fs : RegNum) :
    Statement (.sqrtD fd fs) := opF_rForm ..
theorem absS (fd : RegNum) (fs : RegNum) :
    Statement (.absS fd fs) := opF_rForm ..
theorem absD (fd : RegNum) (fs : RegNum) :
    Statement (.absD fd fs) := opF_rForm ..
theorem movS (fd : RegNum) (fs : RegNum) :
    Statement (.movS fd fs) := opF_rForm ..
theorem movD (fd : RegNum) (fs : RegNum) :
    Statement (.movD fd fs) := opF_rForm ..
theorem negS (fd : RegNum) (fs : RegNum) :
    Statement (.negS fd fs) := opF_rForm ..
theorem negD (fd : RegNum) (fs : RegNum) :
    Statement (.negD fd fs) := opF_rForm ..
theorem roundLS (fd : RegNum) (fs : RegNum) :
    Statement (.roundLS fd fs) := opF_rForm ..
theorem roundLD (fd : RegNum) (fs : RegNum) :
    Statement (.roundLD fd fs) := opF_rForm ..
theorem truncLS (fd : RegNum) (fs : RegNum) :
    Statement (.truncLS fd fs) := opF_rForm ..
theorem truncLD (fd : RegNum) (fs : RegNum) :
    Statement (.truncLD fd fs) := opF_rForm ..
theorem ceilLS (fd : RegNum) (fs : RegNum) :
    Statement (.ceilLS fd fs) := opF_rForm ..
theorem ceilLD (fd : RegNum) (fs : RegNum) :
    Statement (.ceilLD fd fs) := opF_rForm ..
theorem floorLS (fd : RegNum) (fs : RegNum) :
    Statement (.floorLS fd fs) := opF_rForm ..
theorem floorLD (fd : RegNum) (fs : RegNum) :
    Statement (.floorLD fd fs) := opF_rForm ..
theorem roundWS (fd : RegNum) (fs : RegNum) :
    Statement (.roundWS fd fs) := opF_rForm ..
theorem roundWD (fd : RegNum) (fs : RegNum) :
    Statement (.roundWD fd fs) := opF_rForm ..
theorem truncWS (fd : RegNum) (fs : RegNum) :
    Statement (.truncWS fd fs) := opF_rForm ..
theorem truncWD (fd : RegNum) (fs : RegNum) :
    Statement (.truncWD fd fs) := opF_rForm ..
theorem ceilWS (fd : RegNum) (fs : RegNum) :
    Statement (.ceilWS fd fs) := opF_rForm ..
theorem ceilWD (fd : RegNum) (fs : RegNum) :
    Statement (.ceilWD fd fs) := opF_rForm ..
theorem floorWS (fd : RegNum) (fs : RegNum) :
    Statement (.floorWS fd fs) := opF_rForm ..
theorem floorWD (fd : RegNum) (fs : RegNum) :
    Statement (.floorWD fd fs) := opF_rForm ..
theorem recipS (fd : RegNum) (fs : RegNum) :
    Statement (.recipS fd fs) := opF_rForm ..
theorem recipD (fd : RegNum) (fs : RegNum) :
    Statement (.recipD fd fs) := opF_rForm ..
theorem rsqrtS (fd : RegNum) (fs : RegNum) :
    Statement (.rsqrtS fd fs) := opF_rForm ..
theorem rsqrtD (fd : RegNum) (fs : RegNum) :
    Statement (.rsqrtD fd fs) := opF_rForm ..
theorem movfS (fd : RegNum) (fs : RegNum) (cc : BitVec 3) :
    Statement (.movfS fd fs cc) := opF_rForm ..
theorem movtS (fd : RegNum) (fs : RegNum) (cc : BitVec 3) :
    Statement (.movtS fd fs cc) := opF_rForm ..
theorem movzS (fd : RegNum) (fs : RegNum) (rt : RegNum) :
    Statement (.movzS fd fs rt) := opF_rForm ..
theorem movnS (fd : RegNum) (fs : RegNum) (rt : RegNum) :
    Statement (.movnS fd fs rt) := opF_rForm ..
theorem movfD (fd : RegNum) (fs : RegNum) (cc : BitVec 3) :
    Statement (.movfD fd fs cc) := opF_rForm ..
theorem movtD (fd : RegNum) (fs : RegNum) (cc : BitVec 3) :
    Statement (.movtD fd fs cc) := opF_rForm ..
theorem movzD (fd : RegNum) (fs : RegNum) (rt : RegNum) :
    Statement (.movzD fd fs rt) := opF_rForm ..
theorem movnD (fd : RegNum) (fs : RegNum) (rt : RegNum) :
    Statement (.movnD fd fs rt) := opF_rForm ..
theorem cvtSD (fd : RegNum) (fs : RegNum) :
    Statement (.cvtSD fd fs) := opF_rForm ..
theorem cvtSW (fd : RegNum) (fs : RegNum) :
    Statement (.cvtSW fd fs) := opF_rForm ..
theorem cvtSL (fd : RegNum) (fs : RegNum) :
    Statement (.cvtSL fd fs) := opF_rForm ..
theorem cvtDS (fd : RegNum) (fs : RegNum) :
    Statement (.cvtDS fd fs) := opF_rForm ..
theorem cvtDW (fd : RegNum) (fs : RegNum) :
    Statement (.cvtDW fd fs) := opF_rForm ..
theorem cvtDL (fd : RegNum) (fs : RegNum) :
    Statement (.cvtDL fd fs) := opF_rForm ..
theorem cvtWS (fd : RegNum) (fs : RegNum) :
    Statement (.cvtWS fd fs) := opF_rForm ..
theorem cvtWD (fd : RegNum) (fs : RegNum) :
    Statement (.cvtWD fd fs) := opF_rForm ..
theorem cvtLS (fd : RegNum) (fs : RegNum) :
    Statement (.cvtLS fd fs) := opF_rForm ..
theorem cvtLD (fd : RegNum) (fs : RegNum) :
    Statement (.cvtLD fd fs) := opF_rForm ..
theorem cFS (cc : BitVec 3) (fs : RegNum) (ft : RegNum) :
    Statement (.cFS cc fs ft) := opF_rForm ..
theorem cUnS (cc : BitVec 3) (fs : RegNum) (ft : RegNum) :
    Statement (.cUnS cc fs ft) := opF_rForm ..
theorem cEqS (cc : BitVec 3) (fs : RegNum) (ft : RegNum) :
    Statement (.cEqS cc fs ft) := opF_rForm ..
theorem cUeqS (cc : BitVec 3) (fs : RegNum) (ft : RegNum) :
    Statement (.cUeqS cc fs ft) := opF_rForm ..
theorem cOltS (cc : BitVec 3) (fs : RegNum) (ft : RegNum) :
    Statement (.cOltS cc fs ft) := opF_rForm ..
theorem cUltS (cc : BitVec 3) (fs : RegNum) (ft : RegNum) :
    Statement (.cUltS cc fs ft) := opF_rForm ..
theorem cOleS (cc : BitVec 3) (fs : RegNum) (ft : RegNum) :
    Statement (.cOleS cc fs ft) := opF_rForm ..
theorem cUleS (cc : BitVec 3) (fs : RegNum) (ft : RegNum) :
    Statement (.cUleS cc fs ft) := opF_rForm ..
theorem cSfS (cc : BitVec 3) (fs : RegNum) (ft : RegNum) :
    Statement (.cSfS cc fs ft) := opF_rForm ..
theorem cNgleS (cc : BitVec 3) (fs : RegNum) (ft : RegNum) :
    Statement (.cNgleS cc fs ft) := opF_rForm ..
theorem cSeqS (cc : BitVec 3) (fs : RegNum) (ft : RegNum) :
    Statement (.cSeqS cc fs ft) := opF_rForm ..
theorem cNglS (cc : BitVec 3) (fs : RegNum) (ft : RegNum) :
    Statement (.cNglS cc fs ft) := opF_rForm ..
theorem cLtS (cc : BitVec 3) (fs : RegNum) (ft : RegNum) :
    Statement (.cLtS cc fs ft) := opF_rForm ..
theorem cNgeS (cc : BitVec 3) (fs : RegNum) (ft : RegNum) :
    Statement (.cNgeS cc fs ft) := opF_rForm ..
theorem cLeS (cc : BitVec 3) (fs : RegNum) (ft : RegNum) :
    Statement (.cLeS cc fs ft) := opF_rForm ..
theorem cNgtS (cc : BitVec 3) (fs : RegNum) (ft : RegNum) :
    Statement (.cNgtS cc fs ft) := opF_rForm ..
theorem cFD (cc : BitVec 3) (fs : RegNum) (ft : RegNum) :
    Statement (.cFD cc fs ft) := opF_rForm ..
theorem cUnD (cc : BitVec 3) (fs : RegNum) (ft : RegNum) :
    Statement (.cUnD cc fs ft) := opF_rForm ..
theorem cEqD (cc : BitVec 3) (fs : RegNum) (ft : RegNum) :
    Statement (.cEqD cc fs ft) := opF_rForm ..
theorem cUeqD (cc : BitVec 3) (fs : RegNum) (ft : RegNum) :
    Statement (.cUeqD cc fs ft) := opF_rForm ..
theorem cOltD (cc : BitVec 3) (fs : RegNum) (ft : RegNum) :
    Statement (.cOltD cc fs ft) := opF_rForm ..
theorem cUltD (cc : BitVec 3) (fs : RegNum) (ft : RegNum) :
    Statement (.cUltD cc fs ft) := opF_rForm ..
theorem cOleD (cc : BitVec 3) (fs : RegNum) (ft : RegNum) :
    Statement (.cOleD cc fs ft) := opF_rForm ..
theorem cUleD (cc : BitVec 3) (fs : RegNum) (ft : RegNum) :
    Statement (.cUleD cc fs ft) := opF_rForm ..
theorem cSfD (cc : BitVec 3) (fs : RegNum) (ft : RegNum) :
    Statement (.cSfD cc fs ft) := opF_rForm ..
theorem cNgleD (cc : BitVec 3) (fs : RegNum) (ft : RegNum) :
    Statement (.cNgleD cc fs ft) := opF_rForm ..
theorem cSeqD (cc : BitVec 3) (fs : RegNum) (ft : RegNum) :
    Statement (.cSeqD cc fs ft) := opF_rForm ..
theorem cNglD (cc : BitVec 3) (fs : RegNum) (ft : RegNum) :
    Statement (.cNglD cc fs ft) := opF_rForm ..
theorem cLtD (cc : BitVec 3) (fs : RegNum) (ft : RegNum) :
    Statement (.cLtD cc fs ft) := opF_rForm ..
theorem cNgeD (cc : BitVec 3) (fs : RegNum) (ft : RegNum) :
    Statement (.cNgeD cc fs ft) := opF_rForm ..
theorem cLeD (cc : BitVec 3) (fs : RegNum) (ft : RegNum) :
    Statement (.cLeD cc fs ft) := opF_rForm ..
theorem cNgtD (cc : BitVec 3) (fs : RegNum) (ft : RegNum) :
    Statement (.cNgtD cc fs ft) := opF_rForm ..
theorem lwxc1 (fd : RegNum) (index : RegNum) (base : RegNum) :
    Statement (.lwxc1 fd index base) := opF_rForm ..
theorem ldxc1 (fd : RegNum) (index : RegNum) (base : RegNum) :
    Statement (.ldxc1 fd index base) := opF_rForm ..
theorem swxc1 (fs : RegNum) (index : RegNum) (base : RegNum) :
    Statement (.swxc1 fs index base) := opF_rForm ..
theorem sdxc1 (fs : RegNum) (index : RegNum) (base : RegNum) :
    Statement (.sdxc1 fs index base) := opF_rForm ..
theorem prefx (hint : RegNum) (index : RegNum) (base : RegNum) :
    Statement (.prefx hint index base) := opF_rForm ..
theorem maddS (fd : RegNum) (fr : RegNum) (fs : RegNum) (ft : RegNum) :
    Statement (.maddS fd fr fs ft) := opF_rForm ..
theorem maddD (fd : RegNum) (fr : RegNum) (fs : RegNum) (ft : RegNum) :
    Statement (.maddD fd fr fs ft) := opF_rForm ..
theorem msubS (fd : RegNum) (fr : RegNum) (fs : RegNum) (ft : RegNum) :
    Statement (.msubS fd fr fs ft) := opF_rForm ..
theorem msubD (fd : RegNum) (fr : RegNum) (fs : RegNum) (ft : RegNum) :
    Statement (.msubD fd fr fs ft) := opF_rForm ..
theorem nmaddS (fd : RegNum) (fr : RegNum) (fs : RegNum) (ft : RegNum) :
    Statement (.nmaddS fd fr fs ft) := opF_rForm ..
theorem nmaddD (fd : RegNum) (fr : RegNum) (fs : RegNum) (ft : RegNum) :
    Statement (.nmaddD fd fr fs ft) := opF_rForm ..
theorem nmsubS (fd : RegNum) (fr : RegNum) (fs : RegNum) (ft : RegNum) :
    Statement (.nmsubS fd fr fs ft) := opF_rForm ..
theorem nmsubD (fd : RegNum) (fr : RegNum) (fs : RegNum) (ft : RegNum) :
    Statement (.nmsubD fd fr fs ft) := opF_rForm ..

end Sys2Proof.Laws.Opcode
end

