-- ==== Sys2Proof/Tests/Slice0.lean ====
section
/-! SUPPORT. Tests: the ill-formed terms WellFormed refuses, the decoding of words written out from the
spec's encodings, single steps against the worked examples of the spec, and for every statement with
hypotheses a witness that meets them. -/

open Sys2Proof Sys2Proof.Machine

namespace Sys2Proof.Tests

/-! ### Helpers -/

/-- The state after a result that is a next state. -/
def after (r : Result) : State :=
  match r with
  | .next s => s
  | _ => State.reset

/-- The result is a next state. -/
def isNext (r : Result) : Bool :=
  match r with
  | .next _ => true
  | _ => false

theorem next_after {r : Result} (h : isNext r = true) : r = .next (after r) := by
  cases r <;> first | rfl | cases h

/-- The reason of a refusal. -/
def refusal (r : Result) : Option Refusal :=
  match r with
  | .refused e => some e
  | _ => none

/-- The exception a result has raised. -/
def raised (r : Result) : Option Exc := (after r).trap.map TrapRecord.kind

/-- Every word of the list decodes to its instruction and is its encoding. -/
def decodesTo (l : List (BitVec 32 × Instr)) : Bool :=
  l.all fun p => match decode p.1 with
    | .ok i => decide (i = p.2) && encode i == p.1
    | .error _ => false

/-- Parameters with a part of the physical space missing and a region that is not mapped. -/
def holes : Config :=
  { Config.default with
    unbacked := [(0x3000, 0x3fff)]
    translate := [{ first := 0x4000, last := 0x4fff, kinds := [.load, .store, .fetch],
                    answer := .exception .tlbRefill },
                  { first := 0x5000, last := 0x5fff, kinds := [.load, .store],
                    answer := .ok 0x2000 .uncached }] }

/-- Little-endian parameters. -/
def little : Config := { Config.default with bigEndianMem := false }

/-- Parameters of the 32-bit register model. -/
def narrow : Config := { Config.default with fgr64 := false }

/-- No coprocessor 1, and coprocessors 0 and 2 usable. -/
def swapped : Config := { Config.default with cu0 := true, cu1 := false, cu2 := true }

/-- A machine with values in registers and the bytes 80 11 22 33 44 55 66 77 88 at 0x2000. -/
def rig (cfg : Config) : State :=
  { ((((State.resetWith cfg).setX 2 0xaaaaaaaaaaaaaaaa).setX 4 0x2000).setX 5 2).setX 6
      0xfffffffffffffff9 with
    mem := [(0x2000, 0x80), (0x2001, 0x11), (0x2002, 0x22), (0x2003, 0x33), (0x2004, 0x44),
      (0x2005, 0x55), (0x2006, 0x66), (0x2007, 0x77), (0x2008, 0x88)] }

/-- The machine of `rig` with `v` in register 7. -/
def rigX (v : Word) : State := (rig .default).setX 7 v

/-- The machine of `rig` with single-precision values in f4, f6 and f8. -/
def fpu (cfg : Config) (a b c : Word) : State :=
  (((rig cfg).storeFpr 4 .s a).storeFpr 6 .s b).storeFpr 8 .s c

/-- The machine of `rig` with double-precision values in f4 and f6. -/
def fpuD (a b : Word) : State := ((rig .default).storeFpr 4 .d a).storeFpr 6 .d b

/-- Parameters of a client with a Handler of its own. -/
def handled : Config := { Config.default with handler := .part }

/-- A state no reset leads to at once: a delay slot, a link, undefined bits, HI/LO records, stored
bytes, one of them undefined. -/
def rich : State :=
  { ((rig .default).undefX 9).setX 10 8 with
    bd := true, npc := 0x100, llBit := true, hiRd := .age0
    llAddr := { pa := 0x2000, width := 4, cached := true }
    stored := [0x2000, 0x2001, 0x2100], undefMem := [0x2100] }

/-! ### WellFormed refuses -/

theorem test_wellFormed_word_offsets :
    [Instr.lw 2 1 4, .lwu 2 2 4, .sw 2 3 4, .ll 2 1 4, .sc 2 2 4, .lwc1 2 3 4, .swc1 2 1 4,
      .lwc2 2 2 4, .swc2 2 3 4].all (fun i => !i.WellFormed) = true := by decide

theorem test_wellFormed_doubleword_offsets :
    [Instr.ld 2 4 4, .sd 2 1 4, .lld 2 2 4, .scd 2 4 4, .ldc1 2 4 4, .sdc1 2 1 4, .ldc2 2 4 4,
      .sdc2 2 7 4].all (fun i => !i.WellFormed) = true := by decide

theorem test_wellFormed_jalr_same_register : (Instr.jalr 25 25).WellFormed = false := by decide

theorem test_wellFormed_link_of_register_31 :
    [Instr.bltzal 31 4, .bgezal 31 4, .bltzall 31 4, .bgezall 31 4].all
      (fun i => !i.WellFormed) = true := by decide

theorem test_wellFormed_accepts :
    [Instr.lw 2 4 4, .ld 2 8 4, .lh 2 1 4, .jalr 31 25, .bltzal 30 4].all Instr.WellFormed = true := by
  decide

/-! ### Decoding: one word per row of spec/opcode_table.json, its match with its fields filled in -/

theorem test_decode_immediate : decodesTo [
    (0x22c99a5c, .addi 9 22 0x9a5c),
    (0x26c99a5c, .addiu 9 22 0x9a5c),
    (0x2ac99a5c, .slti 9 22 0x9a5c),
    (0x2ec99a5c, .sltiu 9 22 0x9a5c),
    (0x32c99a5c, .andi 9 22 0x9a5c),
    (0x36c99a5c, .ori 9 22 0x9a5c),
    (0x3ac99a5c, .xori 9 22 0x9a5c),
    (0x3c099a5c, .lui 9 0x9a5c),
    (0x62c99a5c, .daddi 9 22 0x9a5c),
    (0x66c99a5c, .daddiu 9 22 0x9a5c)] = true := by decide

theorem test_decode_loads_and_stores : decodesTo [
    (0x81a99a5c, .lb 9 0x9a5c 13),
    (0x91a99a5c, .lbu 9 0x9a5c 13),
    (0x85a99a5c, .lh 9 0x9a5c 13),
    (0x95a99a5c, .lhu 9 0x9a5c 13),
    (0x8da99a5c, .lw 9 0x9a5c 13),
    (0x9da99a5c, .lwu 9 0x9a5c 13),
    (0xdda99a5c, .ld 9 0x9a5c 13),
    (0xa1a99a5c, .sb 9 0x9a5c 13),
    (0xa5a99a5c, .sh 9 0x9a5c 13),
    (0xada99a5c, .sw 9 0x9a5c 13),
    (0xfda99a5c, .sd 9 0x9a5c 13),
    (0x89a99a5c, .lwl 9 0x9a5c 13),
    (0x99a99a5c, .lwr 9 0x9a5c 13),
    (0xa9a99a5c, .swl 9 0x9a5c 13),
    (0xb9a99a5c, .swr 9 0x9a5c 13),
    (0x69a99a5c, .ldl 9 0x9a5c 13),
    (0x6da99a5c, .ldr 9 0x9a5c 13),
    (0xb1a99a5c, .sdl 9 0x9a5c 13),
    (0xb5a99a5c, .sdr 9 0x9a5c 13),
    (0xc1a99a5c, .ll 9 0x9a5c 13),
    (0xd1a99a5c, .lld 9 0x9a5c 13),
    (0xe1a99a5c, .sc 9 0x9a5c 13),
    (0xf1a99a5c, .scd 9 0x9a5c 13),
    (0xc9a99a5c, .lwc2 9 0x9a5c 13),
    (0xd9a99a5c, .ldc2 9 0x9a5c 13),
    (0xe9a99a5c, .swc2 9 0x9a5c 13),
    (0xf9a99a5c, .sdc2 9 0x9a5c 13)] = true := by decide

theorem test_decode_traps_moves_and_misc : decodesTo [
    (0xcda99a5c, .pref 9 0x9a5c 13),
    (0x02cd480a, .movz 9 22 13),
    (0x02cd480b, .movn 9 22 13),
    (0x02af378c, .syscall 0xabcde),
    (0x02af378d, .brk 0xabcde),
    (0x0000024f, .sync 9),
    (0x0136a970, .tge 9 22 0x2a5),
    (0x0136a971, .tgeu 9 22 0x2a5),
    (0x0136a972, .tlt 9 22 0x2a5),
    (0x0136a973, .tltu 9 22 0x2a5),
    (0x0136a974, .teq 9 22 0x2a5),
    (0x0136a976, .tne 9 22 0x2a5),
    (0x02d44801, .movf 9 22 5),
    (0x02d54801, .movt 9 22 5),
    (0x05289a5c, .tgei 9 0x9a5c),
    (0x05299a5c, .tgeiu 9 0x9a5c),
    (0x052a9a5c, .tlti 9 0x9a5c),
    (0x052b9a5c, .tltiu 9 0x9a5c),
    (0x052c9a5c, .teqi 9 0x9a5c),
    (0x052e9a5c, .tnei 9 0x9a5c),
    (0x42c0ffee, .cop0 0x2c0ffee),
    (0x4ac0ffee, .cop2 0x2c0ffee)] = true := by decide

theorem test_decode_fpu_transfers : decodesTo [
    (0xc5a99a5c, .lwc1 9 0x9a5c 13),
    (0xd5a99a5c, .ldc1 9 0x9a5c 13),
    (0xe5a99a5c, .swc1 9 0x9a5c 13),
    (0xf5a99a5c, .sdc1 9 0x9a5c 13),
    (0x4409b000, .mfc1 9 22),
    (0x4429b000, .dmfc1 9 22),
    (0x4449b000, .cfc1 9 22),
    (0x4489b000, .mtc1 9 22),
    (0x44a9b000, .dmtc1 9 22),
    (0x44c9b000, .ctc1 9 22),
    (0x4db60240, .lwxc1 9 22 13),
    (0x4db60241, .ldxc1 9 22 13),
    (0x4db64808, .swxc1 9 22 13),
    (0x4db64809, .sdxc1 9 22 13),
    (0x4db6480f, .prefx 9 22 13)] = true := by decide

theorem test_decode_three_operands : decodesTo [
    (0x02cd4820, .add 9 22 13),
    (0x02cd4821, .addu 9 22 13),
    (0x02cd4822, .sub 9 22 13),
    (0x02cd4823, .subu 9 22 13),
    (0x02cd4824, .and 9 22 13),
    (0x02cd4825, .or 9 22 13),
    (0x02cd4826, .xor 9 22 13),
    (0x02cd4827, .nor 9 22 13),
    (0x02cd482a, .slt 9 22 13),
    (0x02cd482b, .sltu 9 22 13),
    (0x02cd482c, .dadd 9 22 13),
    (0x02cd482d, .daddu 9 22 13),
    (0x02cd482e, .dsub 9 22 13),
    (0x02cd482f, .dsubu 9 22 13)] = true := by decide

theorem test_decode_shifts : decodesTo [
    (0x00164b40, .sll 9 22 13),
    (0x00164b42, .srl 9 22 13),
    (0x00164b43, .sra 9 22 13),
    (0x00164b78, .dsll 9 22 13),
    (0x00164b7a, .dsrl 9 22 13),
    (0x00164b7b, .dsra 9 22 13),
    (0x00164b7c, .dsll32 9 22 13),
    (0x00164b7e, .dsrl32 9 22 13),
    (0x00164b7f, .dsra32 9 22 13),
    (0x01b64804, .sllv 9 22 13),
    (0x01b64806, .srlv 9 22 13),
    (0x01b64807, .srav 9 22 13),
    (0x01b64814, .dsllv 9 22 13),
    (0x01b64816, .dsrlv 9 22 13),
    (0x01b64817, .dsrav 9 22 13)] = true := by decide

theorem test_decode_multiply_divide : decodesTo [
    (0x01360018, .mult 9 22),
    (0x01360019, .multu 9 22),
    (0x0136001a, .div 9 22),
    (0x0136001b, .divu 9 22),
    (0x0136001c, .dmult 9 22),
    (0x0136001d, .dmultu 9 22),
    (0x0136001e, .ddiv 9 22),
    (0x0136001f, .ddivu 9 22),
    (0x00004810, .mfhi 9),
    (0x01200011, .mthi 9),
    (0x00004812, .mflo 9),
    (0x01200013, .mtlo 9)] = true := by decide

theorem test_decode_jumps_and_branches : decodesTo [
    (0x01200008, .jr 9),
    (0x02c04809, .jalr 9 22),
    (0x05209a5c, .bltz 9 0x9a5c),
    (0x05219a5c, .bgez 9 0x9a5c),
    (0x05229a5c, .bltzl 9 0x9a5c),
    (0x05239a5c, .bgezl 9 0x9a5c),
    (0x05309a5c, .bltzal 9 0x9a5c),
    (0x05319a5c, .bgezal 9 0x9a5c),
    (0x05329a5c, .bltzall 9 0x9a5c),
    (0x05339a5c, .bgezall 9 0x9a5c),
    (0x0ac0ffee, .j 0x2c0ffee),
    (0x0ec0ffee, .jal 0x2c0ffee),
    (0x11369a5c, .beq 9 22 0x9a5c),
    (0x15369a5c, .bne 9 22 0x9a5c),
    (0x19209a5c, .blez 9 0x9a5c),
    (0x1d209a5c, .bgtz 9 0x9a5c),
    (0x51369a5c, .beql 9 22 0x9a5c),
    (0x55369a5c, .bnel 9 22 0x9a5c),
    (0x59209a5c, .blezl 9 0x9a5c),
    (0x5d209a5c, .bgtzl 9 0x9a5c)] = true := by decide

theorem test_decode_fpu_moves_and_branches : decodesTo [
    (0x45149a5c, .bc1f 5 0x9a5c),
    (0x45159a5c, .bc1t 5 0x9a5c),
    (0x45169a5c, .bc1fl 5 0x9a5c),
    (0x45179a5c, .bc1tl 5 0x9a5c),
    (0x4600b246, .movS 9 22),
    (0x4620b246, .movD 9 22),
    (0x4614b251, .movfS 9 22 5),
    (0x4615b251, .movtS 9 22 5),
    (0x460db252, .movzS 9 22 13),
    (0x460db253, .movnS 9 22 13),
    (0x4634b251, .movfD 9 22 5),
    (0x4635b251, .movtD 9 22 5),
    (0x462db252, .movzD 9 22 13),
    (0x462db253, .movnD 9 22 13)] = true := by decide

theorem test_decode_fpu_arithmetic : decodesTo [
    (0x460db240, .addS 9 22 13),
    (0x462db240, .addD 9 22 13),
    (0x460db241, .subS 9 22 13),
    (0x462db241, .subD 9 22 13),
    (0x460db242, .mulS 9 22 13),
    (0x462db242, .mulD 9 22 13),
    (0x460db243, .divS 9 22 13),
    (0x462db243, .divD 9 22 13),
    (0x4600b244, .sqrtS 9 22),
    (0x4620b244, .sqrtD 9 22),
    (0x4600b245, .absS 9 22),
    (0x4620b245, .absD 9 22),
    (0x4600b247, .negS 9 22),
    (0x4620b247, .negD 9 22),
    (0x4600b255, .recipS 9 22),
    (0x4620b255, .recipD 9 22),
    (0x4600b256, .rsqrtS 9 22),
    (0x4620b256, .rsqrtD 9 22),
    (0x4edb6a60, .maddS 9 22 13 27),
    (0x4edb6a61, .maddD 9 22 13 27),
    (0x4edb6a68, .msubS 9 22 13 27),
    (0x4edb6a69, .msubD 9 22 13 27),
    (0x4edb6a70, .nmaddS 9 22 13 27),
    (0x4edb6a71, .nmaddD 9 22 13 27),
    (0x4edb6a78, .nmsubS 9 22 13 27),
    (0x4edb6a79, .nmsubD 9 22 13 27)] = true := by decide

theorem test_decode_fpu_conversions : decodesTo [
    (0x4600b248, .roundLS 9 22),
    (0x4620b248, .roundLD 9 22),
    (0x4600b249, .truncLS 9 22),
    (0x4620b249, .truncLD 9 22),
    (0x4600b24a, .ceilLS 9 22),
    (0x4620b24a, .ceilLD 9 22),
    (0x4600b24b, .floorLS 9 22),
    (0x4620b24b, .floorLD 9 22),
    (0x4600b24c, .roundWS 9 22),
    (0x4620b24c, .roundWD 9 22),
    (0x4600b24d, .truncWS 9 22),
    (0x4620b24d, .truncWD 9 22),
    (0x4600b24e, .ceilWS 9 22),
    (0x4620b24e, .ceilWD 9 22),
    (0x4600b24f, .floorWS 9 22),
    (0x4620b24f, .floorWD 9 22),
    (0x4620b260, .cvtSD 9 22),
    (0x4680b260, .cvtSW 9 22),
    (0x46a0b260, .cvtSL 9 22),
    (0x4600b261, .cvtDS 9 22),
    (0x4680b261, .cvtDW 9 22),
    (0x46a0b261, .cvtDL 9 22),
    (0x4600b264, .cvtWS 9 22),
    (0x4620b264, .cvtWD 9 22),
    (0x4600b265, .cvtLS 9 22),
    (0x4620b265, .cvtLD 9 22)] = true := by decide

theorem test_decode_fpu_compares : decodesTo [
    (0x460db530, .cFS 5 22 13),
    (0x460db531, .cUnS 5 22 13),
    (0x460db532, .cEqS 5 22 13),
    (0x460db533, .cUeqS 5 22 13),
    (0x460db534, .cOltS 5 22 13),
    (0x460db535, .cUltS 5 22 13),
    (0x460db536, .cOleS 5 22 13),
    (0x460db537, .cUleS 5 22 13),
    (0x460db538, .cSfS 5 22 13),
    (0x460db539, .cNgleS 5 22 13),
    (0x460db53a, .cSeqS 5 22 13),
    (0x460db53b, .cNglS 5 22 13),
    (0x460db53c, .cLtS 5 22 13),
    (0x460db53d, .cNgeS 5 22 13),
    (0x460db53e, .cLeS 5 22 13),
    (0x460db53f, .cNgtS 5 22 13),
    (0x462db530, .cFD 5 22 13),
    (0x462db531, .cUnD 5 22 13),
    (0x462db532, .cEqD 5 22 13),
    (0x462db533, .cUeqD 5 22 13),
    (0x462db534, .cOltD 5 22 13),
    (0x462db535, .cUltD 5 22 13),
    (0x462db536, .cOleD 5 22 13),
    (0x462db537, .cUleD 5 22 13),
    (0x462db538, .cSfD 5 22 13),
    (0x462db539, .cNgleD 5 22 13),
    (0x462db53a, .cSeqD 5 22 13),
    (0x462db53b, .cNglD 5 22 13),
    (0x462db53c, .cLtD 5 22 13),
    (0x462db53d, .cNgeD 5 22 13),
    (0x462db53e, .cLeD 5 22 13),
    (0x462db53f, .cNgtD 5 22 13)] = true := by decide

/-! Words written out bit by bit in the fields of 30_encoding.md R131 to R134, as the rule of each
instruction gives them. -/

theorem test_decode_bits : decodesTo [
    (0b000000_00100_00101_00010_00000_100000, .add 2 4 5),
    (0b001000_00100_00010_1111111111111111, .addi 2 4 0xffff),
    (0b000000_00000_00101_00010_00100_000011, .sra 2 5 4),
    (0b000000_00100_00101_0000000000_011000, .mult 4 5),
    (0b100011_00100_00010_0000000000001000, .lw 2 8 4),
    (0b000100_00100_00101_0000000000000011, .beq 4 5 3),
    (0b000011_00000000000000000001000000, .jal 0x40),
    (0b000000_00100_00101_0000000000_110000, .tge 4 5 0),
    (0b010001_10000_00110_00100_00010_000000, .addS 2 4 6),
    (0b010011_01000_00110_00100_00010_100000, .maddS 2 8 4 6),
    (0b010001_10001_00000_00100_00010_100000, .cvtSD 2 4),
    (0b010001_01000_00001_0000000000000100, .bc1t 0 4),
    (0b010000_10000_00000_00000_00000_011000, .cop0 0x2000018)] = true := by decide

theorem test_decode_rejects :
    decode 0x70000000 = .error .reserved ∧ decode 0x00851060 = .error .zeroField ∧
      decode 0x00821001 = .error .movciZeroField ∧ decode 0x46062088 = .error .fpuZeroField ∧
      decode 0x46c00000 = .error .reservedFpu ∧ decodeBytes true [0, 0, 0] = .error .length := by
  decide

theorem test_decodeTableWord :
    decodeTableWord 32 0x00851020 = some (.add 2 4 5) ∧ decodeTableWord 32 0x70000000 = none := by
  decide

theorem test_encodeBytes_little : encodeBytes false (.add 2 4 5) = [0x20, 0x10, 0x85, 0x00] := by
  decide

/-! ### Single steps, against the worked examples of the spec -/

/-- 41_cpu_alu.md R271. -/
theorem test_add_overflow_traps :
    raised (exec (.add 2 7 7) (rigX 0x7fffffff)) = some .integerOverflow ∧
      (after (exec (.add 2 7 7) (rigX 0x7fffffff))).cellX 2 = Reg.of 0xaaaaaaaaaaaaaaaa := by decide

/-- 41_cpu_alu.md R262: 0xFFFFFFFF80000000 - 32768. -/
theorem test_addiu_wraps :
    (after (exec (.addiu 2 7 0x8000) (rigX 0xffffffff80000000))).cellX 2 = Reg.of 0x7fff8000 := by
  decide

/-- 41_cpu_alu.md R264. -/
theorem test_sltiu_sign_extends :
    (after (exec (.sltiu 2 5 0xffff) (rig .default))).cellX 2 = Reg.of 1 := by decide

/-- 10_state.md R31: a write to register 0 is discarded. -/
theorem test_write_to_zero :
    (after (exec (.ori 0 5 0xff) (rig .default))).gpr = (rig .default).gpr := by decide

/-- 41_cpu_alu.md R285, R287. -/
theorem test_sll_sra :
    (after (exec (.sll 2 7 4) (rigX 0x8000001))).cellX 2 = Reg.of 0xffffffff80000010 ∧
      (after (exec (.sra 2 7 4) (rigX 0xffffffff80000000))).cellX 2 = Reg.of 0xfffffffff8000000 := by
  decide

/-- 41_cpu_alu.md R260: a word shift of no word value leaves UNDEF_64. -/
theorem test_srl_undefined :
    (after (exec (.srl 2 7 4) (rigX 0x80000000))).cellX 2 = Reg.unknown := by decide

/-- 41_cpu_alu.md R303: -7 divided by 2. -/
theorem test_div_truncates :
    (after (exec (.div 6 5) (rig .default))).lo = Reg.of 0xfffffffffffffffd ∧
      (after (exec (.div 6 5) (rig .default))).hi = Reg.of 0xffffffffffffffff := by decide

/-- 41_cpu_alu.md R313, 92_eei_decisions.md D34. -/
theorem test_div_without_result :
    (after (exec (.div 6 0) (rig .default))).lo = Reg.unknown ∧
      (after (exec (.ddiv 7 8) ((rigX 0x8000000000000000).setX 8 0xffffffffffffffff))).hi =
        Reg.unknown := by decide

/-- 41_cpu_alu.md R300. -/
theorem test_hilo_hazard :
    refusal (exec (.mult 4 5) (after (exec (.mflo 2) (rig .default)))) = some .hiLoHazard := by decide

/-- 40_cpu_load_store.md R202, R203, in both byte orders. -/
theorem test_loads :
    (after (exec (.lb 2 0 4) (rig .default))).cellX 2 = Reg.of 0xffffffffffffff80 ∧
      (after (exec (.lw 2 0 4) (rig .default))).cellX 2 = Reg.of 0xffffffff80112233 ∧
      (after (exec (.lwu 2 0 4) (rig little))).cellX 2 = Reg.of 0x33221180 := by decide

/-- 40_cpu_load_store.md R218, with the bytes of `rig`. -/
theorem test_ldl :
    (after (exec (.ldl 2 1 4) (rig .default))).cellX 2 = Reg.of 0x11223344556677aa ∧
      (after (exec (.ldl 2 1 4) (rig little))).cellX 2 = Reg.of 0x1180aaaaaaaaaaaa := by decide

/-- 40_cpu_load_store.md R217: SWR r2, 4(r4) of 0x11223344. -/
theorem test_swr :
    ((after (exec (.swr 7 4 4) (rigX 0x11223344))).mem.read 0x2004) = 0x44 ∧
      ((after (exec (.swr 7 4 4) ((rig little).setX 7 0x11223344))).mem.read 0x2007) = 0x11 := by decide

/-- 20_memory.md R93, R96; 60_exceptions.md R620: the record of a trap in a delay slot. -/
theorem test_misaligned_in_delay_slot :
    (after (exec (.lw 2 4 5) rich)).trap =
      some { kind := .addressError 6 .load, victimPc := 0x1000, bd := true, restartPc := 0xffc } := by
  decide

/-- 40_cpu_load_store.md R224: after LL of the same location SC stores and answers 1; without it, 0. -/
theorem test_sc :
    (after (exec (.sc 10 0 4) rich)).cellX 10 = Reg.of 1 ∧
      (after (exec (.sc 10 0 4) rich)).mem.read 0x2003 = 8 ∧
      (after (exec (.sc 5 0 4) (rig .default))).cellX 5 = Reg.of 0 ∧
      (after (exec (.sc 5 0 4) (rig .default))).mem = (rig .default).mem := by decide

/-- 42_cpu_jump_branch.md R347 and R351: taken, and a branch likely not taken. -/
theorem test_branches :
    (after (exec (.beq 4 4 3) (rig .default))).npc = 0x1010 ∧
      (after (exec (.beql 4 5 3) (rig .default))).pc = 0x1008 := by decide

/-- 42_cpu_jump_branch.md R344. -/
theorem test_jal :
    (after (exec (.jal 0x40) (rig .default))).cellX 31 = Reg.of 0x1008 ∧
      (after (exec (.jal 0x40) (rig .default))).npc = 0x100 := by decide

/-- 43_cpu_misc.md R389. -/
theorem test_tgeiu :
    raised (exec (.tgeiu 7 0xffff) (rigX 0xffffffffffffffff)) = some .trap ∧
      raised (exec (.tgeiu 6 0xffff) (rig .default)) = none := by decide

/-- 46_fpu_arith.md R500, R503, R504: 1.5 + 2.25; 1 / 3 with Inexact; the square root of 2. -/
theorem test_fp_arithmetic :
    (after (exec (.addS 2 4 6) (fpu .default 0x3fc00000 0x40100000 0))).fprCell 2 .s =
        Reg.of 0x40700000 ∧
      (after (exec (.divS 2 4 6) (fpu .default 0x3f800000 0x40400000 0))).fprCell 2 .s =
        Reg.of 0x3eaaaaab ∧
      (after (exec (.divS 2 4 6) (fpu .default 0x3f800000 0x40400000 0))).fcsr = 0x1004 ∧
      (after (exec (.sqrtS 2 4) (fpu .default 0x40000000 0 0))).fprCell 2 .s = Reg.of 0x3fb504f3 := by
  decide

/-- 46_fpu_arith.md R503 and R504: the square root of plus infinity, and -0 divided by 1. -/
theorem test_fp_special :
    fpSqrt .default 0 .s 0x7f800000 = (0x7f800000, condNone) ∧
      fpSqrt .default 0 .s 0x7fc00001 = (0x7fbfffff, condV) ∧
      fpDiv .default 0 .s 0x80000000 0x3f800000 = (0x80000000, condNone) := by decide

/-- 46_fpu_arith.md R511. -/
theorem test_nmadd :
    (after (exec (.nmaddS 2 8 4 6) (fpu .default 0x3fc00000 0x40100000 0x40700000))).fprCell 2 .s =
      Reg.of 0xc0e40000 := by decide

/-- 46_fpu_arith.md R501: infinity minus infinity, with V disabled and with V enabled. -/
theorem test_invalid :
    (after (exec (.subS 2 4 6) (fpu .default 0x7f800000 0x7f800000 0))).fprCell 2 .s =
        Reg.of 0x7fbfffff ∧
      raised (exec (.subS 2 4 6) { fpu .default 0x7f800000 0x7f800000 0 with fcsr := 0x800 }) =
        some .floatingPoint ∧
      (after (exec (.subS 2 4 6) { fpu .default 0x7f800000 0x7f800000 0 with fcsr := 0x800 })).fcsr =
        0x10800 := by decide

/-- 45_fpu_transfer.md R485, 00_scope.md R13: an indexed store that leaves the region of its base leaves
its bytes undefined, and a later store of a value makes them defined. -/
theorem test_swxc1_region_violation :
    (after (exec (.swxc1 4 7 4) (rigX 0x4000000000000000))).undefMem =
        (List.range 4).map (0x4000000000002000 + ·) ∧
      (after (exec (.sb 5 1 8) { rigX 0 with
        gpr := (rigX 0).gpr.set 8 (Reg.of 0x20ff), stored := [0x2100], undefMem := [0x2100] })).undefMem =
        [] := by decide

/-- 47_fpu_convert_move_branch.md R560: MOV.S leaves the FCSR alone. -/
theorem test_mov_s :
    (after (exec (.movS 2 4) { fpu .default 0x7fc00001 0 0 with fcsr := 0x10804 })).fprCell 2 .s =
        Reg.of 0x7fc00001 ∧
      (after (exec (.movS 2 4) { fpu .default 0x7fc00001 0 0 with fcsr := 0x10804 })).fcsr =
        0x10804 := by decide

/-- 47_fpu_convert_move_branch.md R542, R544. -/
theorem test_conversions :
    (after (exec (.cvtWS 2 4) (fpu .default 0xc0200000 0 0))).fprCell 2 .w = Reg.of 0xfffffffe ∧
      (after (exec (.cvtWS 2 4) { fpu .default 0xc0200000 0 0 with fcsr := 3 })).fprCell 2 .w =
        Reg.of 0xfffffffd ∧
      (after (exec (.roundWS 2 4) (fpu .default 0x40600000 0 0))).fprCell 2 .w = Reg.of 4 := by decide

/-- 46_fpu_arith.md R514, 47_fpu_convert_move_branch.md R581. -/
theorem test_compare_and_branch :
    (after (exec (.cLtS 7 4 6) (fpu .default 0x3fc00000 0x40100000 0))).fcsr = 0x80000000 ∧
      (after (exec (.bc1t 7 4) { rig .default with fcsr := 0x80000000 })).npc = 0x1014 := by decide

/-- 45_fpu_transfer.md R484: a cause bit with its enable traps, the register written. -/
theorem test_ctc1 :
    raised (exec (.ctc1 7 31) (rigX 0x10800)) = some .floatingPoint ∧
      (after (exec (.ctc1 7 31) (rigX 0xffffffff007c0003))).fcsr = 3 := by decide

/-- 43_cpu_misc.md R402, R403. -/
theorem test_unusable :
    raised (exec (.cop0 0x2000018) (rig .default)) = some (.coprocessorUnusable 0) ∧
      raised (exec (.lwc2 2 1 4) (rig .default)) = some (.coprocessorUnusable 2) ∧
      raised (exec (.movf 2 4 0) (rig swapped)) = some (.coprocessorUnusable 1) := by decide

/-- 70_reset_and_hazards.md R681: the first step after reset runs the word placed for it. -/
theorem test_withFetchWord :
    (after (step (State.reset.withFetchWord 32 0x24050007))).cellX 5 = Reg.of 7 ∧
      raised (step (State.reset.withFetchWord 32 0x0000000d)) = some .breakpoint := by decide

/-! ### Witnesses: states and operands that meet the hypotheses of the statements -/

/-- Values at the edges of the word values (StepKeepsInvariant aside, every statement on 32-bit
operations). -/
theorem test_hyps_word_values :
    WordValue ((rigX 0x7fffffff).x .rs 7) ∧ WordValue ((rigX 0x7fffffff).x .rt 7) ∧
    WordValue ((rigX 0xffffffff80000000).x .rs 7) ∧ WordValue ((rigX 0xffffffff80000000).x .rt 7) ∧
    ¬WordValue ((rigX 0x80000000).x .rs 7) ∧ ¬WordValue ((rigX 0x80000000).x .rt 7) ∧
    ¬WordValue ((rigX 0xffffffff7fffffff).x .rt 7) := by
  unfold WordValue; decide

theorem rich_inv : rich.Inv where
  mem := by decide
  memRange := by decide
  stored := by decide
  storedRange := by decide
  undefMem := by decide
  undefStored := by decide
  x0 := by decide
  fcsr := by decide
  slot := by decide
  trapped := by decide
  link := by decide
  clean := by unfold Reg.clean; decide
  narrow := by decide
  oddTags := by decide

theorem rig_narrow_inv : (rig narrow).Inv where
  mem := by decide
  memRange := by decide
  stored := by decide
  storedRange := by decide
  undefMem := by decide
  undefStored := by decide
  x0 := by decide
  fcsr := by decide
  slot := by decide
  trapped := by decide
  link := by decide
  clean := by unfold Reg.clean; decide
  narrow := by decide
  oddTags := by decide

theorem rigX_region_inv : (rigX 0x4000000000000000).Inv where
  mem := by decide
  memRange := by decide
  stored := by decide
  storedRange := by decide
  undefMem := by decide
  undefStored := by decide
  x0 := by decide
  fcsr := by decide
  slot := by decide
  trapped := by decide
  link := by decide
  clean := by unfold Reg.clean; decide
  narrow := by decide
  oddTags := by decide

theorem test_hyps_StepKeepsInvariant :
    rich.Inv ∧ ∃ t, step rich = .next t := ⟨rich_inv, _, next_after (by decide)⟩

/-- StepRunsDecodedInstruction: a word of ADDIU placed at the reset vector. -/
theorem test_hyps_StepRunsDecodedInstruction :
    let s := State.reset.withFetchWord 32 0x24050007
    s.trap = none ∧ s.interrupted = false ∧ s.pc.toNat % 4 = 0 ∧
      s.locate s.pc s.pc 4 .fetch = .ok [0x1000, 0x1001, 0x1002, 0x1003] ∧
      (∀ a ∈ [0x1000, 0x1001, 0x1002, 0x1003], a ∉ s.stored) ∧
      decodeBytes s.bigEndianCpu ([0x1000, 0x1001, 0x1002, 0x1003].map s.readByte) =
        .ok (.addiu 5 0 7) := by decide

theorem test_hyps_StepStopsBeforeExecution :
    (after (exec (.brk 0) (rig .default))).trap ≠ none ∧
    (after (exec (.brk 0) (rig .default))).cfg.handler = .default ∧
    (after (exec (.brk 0) (rig handled))).trap ≠ none ∧
    (after (exec (.brk 0) (rig handled))).cfg.handler = .part ∧
    ({ rig .default with intPending := [true] } : State).interrupted = true ∧
    ({ rig .default with pc := 0x1001 } : State).pc.toNat % 4 ≠ 0 ∧
    ({ rig .default with pc := 0x1003 } : State).pc.toNat % 4 ≠ 0 ∧
    (rig holes).locate 0x3ffc 0x3ffc 4 .fetch = .error (.busError 0x3ffc .fetch) ∧
    (rig holes).locate 0x4000 0x4000 4 .fetch = .error (.tlbRefill 0x4000 .fetch) ∧
    rich.locate 0x2000 0x2000 4 .fetch = .ok [0x2000, 0x2001, 0x2002, 0x2003] ∧
    0x2000 ∈ rich.stored := by decide

/-- ReservedWordsRaise: a word of each class of error, fetched. -/
theorem test_hyps_ReservedWordsRaise :
    let s (w : Nat) := State.reset.withFetchWord 32 w
    ([0x1000, 0x1001, 0x1002, 0x1003].map (s 0x70000000).readByte = [0x70, 0, 0, 0]) ∧
    (s 0x70000000).locate 0x1000 0x1000 4 .fetch = .ok [0x1000, 0x1001, 0x1002, 0x1003] ∧
    decodeBytes true [0x70, 0, 0, 0] = .error .reserved ∧
    decodeBytes true [0x00, 0x85, 0x10, 0x60] = .error .zeroField ∧
    decodeBytes true [0x00, 0x82, 0x10, 0x01] = .error .movciZeroField ∧
    decodeBytes true [0x46, 0x06, 0x20, 0x88] = .error .fpuZeroField ∧
    decodeBytes true [0x46, 0xc0, 0x00, 0x00] = .error .reservedFpu := by decide

theorem test_hyps_EncodeDecode : decode 0x00851020 = .ok (.add 2 4 5) := by decide

/-- ExceptionsArePrecise: an overflow, and one in a delay slot. -/
theorem test_hyps_ExceptionsArePrecise :
    rich.trap = none ∧ (∃ t, exec (.brk 5) rich = .next t ∧ t.trap =
      some { kind := .breakpoint, victimPc := 0x1000, bd := true, restartPc := 0xffc }) ∧
    ∃ t, exec (.add 2 7 7) (rigX 0x7fffffff) = .next t ∧ t.trap =
      some { kind := .integerOverflow, victimPc := 0x1000, bd := false, restartPc := 0x1000 } :=
  ⟨by decide, ⟨_, next_after (by decide), by decide⟩, _, next_after (by decide), by decide⟩

/-- ProgramCountersMove, WritersOfEachState, HiLoReadHazard (first clause): a completing instruction of
each kind. -/
theorem test_hyps_completing :
    ∀ i ∈ [Instr.addu 2 4 5, .beq 4 4 3, .beql 4 5 3, .jal 0x40, .mfhi 2, .mflo 2, .sw 2 0 4,
        .ll 2 0 4],
      isNext (exec i (rig .default)) = true ∧ (after (exec i (rig .default))).trap = none := by decide

theorem test_hyps_HiLoReadHazard :
    (after (exec (.mfhi 2) (rig .default))).hiRd ≠ .none ∧
    (after (exec (.mflo 2) (rig .default))).loRd ≠ .none ∧
    (after (exec (.sll 0 0 0) (after (exec (.mfhi 2) (rig .default))))).hiRd ≠ .none ∧
    (Instr.mult 4 5).isMulDiv = true := by decide

theorem test_hyps_Coprocessor1Unusable :
    (∀ i ∈ [Instr.addS 2 4 6, .lwc1 2 0 4, .sdc1 2 8 4, .maddD 2 8 4 6, .movf 2 4 7, .bc1t 0 4,
      .prefx 0 4 5], i.usesCop1 = true) ∧ (rig swapped).cfg.cu1 = false := by decide

theorem test_hyps_Coprocessors0And2 :
    (rig .default).cfg.cu0 = false ∧ (rig .default).cfg.cu2 = false ∧ (rig swapped).cfg.cu0 = true ∧
    (rig swapped).cfg.cu2 = true ∧ (Instr.cop2 0).usesCop2 = true ∧ (Instr.sdc2 2 8 4).usesCop2 = true ∧
    (3#16).toNat % 4 ≠ 0 ∧ (4#16).toNat % 8 ≠ 0 ∧ (4#16).toNat % 4 = 0 ∧ (8#16).toNat % 8 = 0 ∧
    (0x2008#64) = (rig swapped).x .rs 4 + (8#16).signExtend 64 ∧
    ∀ n ∈ [4, 8], ∀ k ∈ [Access.load, .store], (0x2008#64).toNat % n = 0 ∧
      (rig swapped).locate 0x2008 0x2008 n k = .ok ((List.range n).map (0x2008 + ·)) := by decide

/-- TrappingAddSubtract: exact sums at both edges of each range. -/
theorem test_hyps_TrappingAddSubtract :
    (-2 ^ 31 ≤ ((rigX 0x7ffffffd).x .rs 7).toInt + ((rigX 0).x .rt 5).toInt ∧
      ((rigX 0x7ffffffd).x .rs 7).toInt + ((rigX 0).x .rt 5).toInt < 2 ^ 31) ∧
    ¬((rigX 0x7ffffffe).x .rs 7).toInt + ((rigX 0).x .rt 5).toInt < 2 ^ 31 ∧
    -2 ^ 31 ≤ ((rigX 0xffffffff80000002).x .rs 7).toInt - ((rigX 0).x .rt 5).toInt ∧
    ¬-2 ^ 31 ≤ ((rigX 0xffffffff80000001).x .rs 7).toInt - ((rigX 0).x .rt 5).toInt ∧
    ((rigX 0x7ffffffffffffffd).x .rs 7).toInt + ((rigX 0).x .rt 5).toInt < 2 ^ 63 ∧
    ¬((rigX 0x7ffffffffffffffe).x .rs 7).toInt + ((rigX 0).x .rt 5).toInt < 2 ^ 63 ∧
    ¬-2 ^ 63 ≤ ((rigX 0x8000000000000001).x .rs 7).toInt - ((rigX 0).x .rt 5).toInt := by decide

/-- Multiply and Divide: outside the hazard; divisors and dividends of each clause. -/
theorem test_hyps_Divide :
    (rigX 0xffffffff80000000).hiRd = .none ∧ (rigX 0).loRd = .none ∧
    ((rigX 0xffffffff80000000).x .rs 7).toInt = -2 ^ 31 ∧
    ((rigX 0x8000000000000000).x .rs 7).toInt = -2 ^ 63 ∧
    ((rigX 0xffffffffffffffff).x .rt 7).toInt = -1 ∧ (rigX 0).x .rt 7 = 0 ∧
    (rigX 0).x .rt 5 ≠ 0 ∧ ((rigX 0).x .rt 5).toInt ≠ -1 := by decide

/-- HiLoMoves: no record pending. -/
theorem test_hyps_HiLoMoves : (rig .default).hiRd = .none ∧ (rig .default).loRd = .none := by decide

theorem test_hyps_ByteOrder :
    ([1, 2, 3, 4, 5, 6, 7, 8] : List Byte).length ≤ 8 ∧ 7 < ([1, 2, 3, 4, 5, 6, 7, 8] : List Byte).length ∧
    valueOfBytes true [1, 2, 3, 4, 5, 6, 7, 8] = 0x0102030405060708 ∧
    bytesOfValue false 0x0102030405060708 8 = [8, 7, 6, 5, 4, 3, 2, 1] := by decide

/-- AccessLocation: no region; a region that raises and one that moves, at their edges; a missing byte at
the edge of its range. -/
theorem test_hyps_AccessLocation :
    Config.default.translate = [] ∧ Config.default.psize = 64 ∧ Config.default.unbacked = [] ∧
    (let c : Config := { holes with translate := holes.translate.drop 1, unbacked := [] }
     ∃ r rs, c.translate = r :: rs ∧ r.first ≤ 0x5000 ∧ (0x5fff : Word) ≤ r.last ∧ .load ∈ r.kinds ∧
      r.answer = .ok 0x2000 .uncached) ∧
    (∃ r rs, holes.translate = r :: rs ∧ r.first ≤ 0x4000 ∧ (0x4fff : Word) ≤ r.last ∧
      .load ∈ r.kinds ∧ r.answer = .exception .tlbRefill) ∧
    (let c : Config := { holes with translate := [] }
     c.translate = [] ∧ c.psize = 64 ∧ c.reverseEndian = false ∧ (0x3000, 0x3fff) ∈ c.unbacked ∧
      (0x3000 : Nat) ≤ (0x2ffd#64 + BitVec.ofNat 64 3).toNat ∧
      (0x3fff#64 + BitVec.ofNat 64 0).toNat ≤ 0x3fff) :=
  ⟨rfl, rfl, rfl, ⟨_, _, rfl, by decide, by decide, by decide, rfl⟩,
    ⟨_, _, rfl, by decide, by decide, by decide, rfl⟩, by decide⟩

/-- Loads, StoresWrite, AlignedAccessExceptions: an aligned access of each width that succeeds, one that
fails, one that is misaligned, and offsets on both sides of the restriction. -/
theorem test_hyps_accesses :
    (∀ n ∈ [1, 2, 4, 8], ∀ k ∈ [Access.load, .store],
      ((rig .default).effAddr 4 0).toNat % n = 0 ∧
      (rig .default).locate 0x2000 0x2000 n k = .ok ((List.range n).map (0x2000 + ·)) ∧
      (rig holes).locate 0x3000 0x3000 n k = .error (.busError 0x3000 k) ∧
      (rig holes).locate 0x4000 0x4000 n k = .error (.tlbRefill 0x4000 k)) ∧
    (0x2001#64).toNat % 2 ≠ 0 ∧ (0x2003#64).toNat % 4 ≠ 0 ∧ (0x2004#64).toNat % 8 ≠ 0 ∧
    (0xfffc#16).toNat % 4 = 0 ∧ (0xfff8#16).toNat % 8 = 0 ∧ (0xfffd#16).toNat % 4 ≠ 0 ∧
    (0xfffc#16).toNat % 8 ≠ 0 ∧ 8 ≤ (rig .default).cfg.psize := by decide

theorem test_hyps_StoresWrite : rich.Inv ∧ 8 ≤ rich.cfg.psize := ⟨rich_inv, by decide⟩

/-- UnalignedLoads and UnalignedStores: the first and the last place of the aligned word or doubleword, in
both byte orders. -/
theorem test_hyps_unaligned :
    (∀ k ∈ [Access.load, .store],
      (rig .default).locate 0x2000 0x2000 4 k = .ok [0x2000, 0x2001, 0x2002, 0x2003] ∧
      (rig .default).locate 0x2003 0x2003 1 k = .ok [0x2003] ∧
      (rig .default).locate 0x2003 (0x2003 - BitVec.ofNat 64 3) 4 k =
        .ok [0x2000, 0x2001, 0x2002, 0x2003] ∧
      (rig little).locate 0x2000 (0x2000 - BitVec.ofNat 64 0) 1 k = .ok [0x2000] ∧
      (rig little).locate 0x2007 (0x2007 - BitVec.ofNat 64 7) 8 k =
        .ok ((List.range 8).map (0x2000 + ·)) ∧
      (rig little).locate 0x2007 0x2007 1 k = .ok [0x2007] ∧
      (rig holes).locate 0x3003 0x3003 1 k = .error (.busError 0x3003 k)) ∧
    (rig .default).bigEndianCpu = true ∧ (rig little).bigEndianCpu = false := by decide

theorem test_hyps_UnalignedPairLoadsDoubleword :
    (rig .default).cellX 4 = Reg.of 0x2000 ∧ (rig .default).bigEndianCpu = true ∧
    (rig .default).cfg.reverseEndian = false ∧ (rig .default).cfg.translate = [] ∧
    (8#16).toInt = (1#16).toInt + 7 ∧
    (∀ i < 8, (0x2001 + BitVec.ofNat 64 i : Word).toNat ∉ (rig .default).undefMem) ∧
    ∃ t, exec (.ldl 2 1 4) (rig .default) = .next t ∧ ∃ u, exec (.ldr 2 8 4) t = .next u :=
  ⟨by decide, by decide, by decide, by decide, by decide, by decide, _, next_after (by decide), _,
    next_after (by decide)⟩

theorem test_hyps_LinkedLoads :
    (rig .default).translated 0x2000 .load = .ok (0x2000, .cachedNoncoherent) ∧
    (rig holes).translated 0x5000 .load = .ok (0x2000, .uncached) ∧
    (rig holes).locate 0x5000 0x5000 4 .load = .ok [0x2000, 0x2001, 0x2002, 0x2003] := by decide

/-- StoreConditional: no link, the same location, another width, a misaligned address, and the
exceptions, Bus Error with the link of the location and with another. -/
theorem test_hyps_StoreConditional :
    rich.Inv ∧ rich.translated 0x2000 .store = .ok (0x2000, .cachedNoncoherent) ∧
    rich.locate 0x2000 0x2000 4 .store = .ok [0x2000, 0x2001, 0x2002, 0x2003] ∧
    rich.locate 0x2000 0x2000 8 .store = .ok ((List.range 8).map (0x2000 + ·)) ∧
    rich.llBit = true ∧ rich.llAddr = { pa := 0x2000, width := 4, cached := true } ∧
    (rig .default).llBit = false ∧ (0x2001#64).toNat % 4 ≠ 0 ∧ (0x2004#64).toNat % 8 ≠ 0 ∧
    (rig holes).translated 0x4000 .store = .error (.tlbRefill 0x4000 .store) ∧
    (rig holes).translated 0x3000 .store = .ok (0x3000, .cachedNoncoherent) ∧
    (rig holes).locate 0x3000 0x3000 4 .store = .error (.busError 0x3000 .store) ∧
    (let s := { rich with cfg := holes, llAddr := { pa := 0x3000, width := 4, cached := true } }
     s.llBit = true ∧ s.translated 0x3000 .store = .ok (0x3000, .cachedNoncoherent) ∧
      s.locate 0x3000 0x3000 4 .store = .error (.busError 0x3000 .store)) ∧
    (let s := { rich with cfg := holes }
     s.llBit = true ∧ s.llAddr.pa ≠ 0x3000 ∧
      s.locate 0x3000 0x3000 4 .store = .error (.busError 0x3000 .store)) :=
  ⟨rich_inv, by decide⟩

/-- Jumps: the first and the last word of the region. -/
theorem test_hyps_Jumps :
    (rig .default).bd = false ∧
    (0#64).toNat = ((rig .default).pc + 4).toNat / 2 ^ 28 * 2 ^ 28 + (0#26).toNat * 4 ∧
    (0x0ffffffc#64).toNat =
      ((rig .default).pc + 4).toNat / 2 ^ 28 * 2 ^ 28 + (0x3ffffff#26).toNat * 4 ∧
    (0 : RegNum) ≠ 31 := by decide

/-- OrdinaryBranches and LikelyBranches: the farthest offsets. -/
theorem test_hyps_branches :
    (rig .default).bd = false ∧ (rig .default).cfg.cu1 = true ∧ (4 : RegNum) ≠ 31 ∧
    (0x21000#64).toInt = ((rig .default).pc.toInt + 4 + 4 * (0x7fff#16).toInt).bmod (2 ^ 64) ∧
    (0xfffffffffffe1004#64).toInt =
      ((rig .default).pc.toInt + 4 + 4 * (0x8000#16).toInt).bmod (2 ^ 64) := by decide

theorem test_hyps_BranchRestrictions :
    (∀ i ∈ [Instr.j 0, .jalr 31 4, .beq 4 5 3, .bgezal 4 3, .bc1t 0 4],
      i.isJump = true ∧ i.WellFormed = true) ∧ rich.bd = true ∧ rich.cfg.cu1 = true ∧
    Instr.bltzal 31 4 ∈ [.bltzal 31 4, .bgezal 31 4, .bltzall 31 4, .bgezall 31 (4 : BitVec 16)] := by
  decide

/-- ExceptionInstructions: comparisons at equality and on both sides of it. -/
theorem test_hyps_ExceptionInstructions :
    ((rigX 5).x .rs 7).toInt = (5#16).toInt ∧ ((rigX 4).x .rs 7).toInt < (5#16).toInt ∧
    ((rigX 6).x .rs 7).toInt > (5#16).toInt ∧
    ((rigX 0xffffffffffffffff).x .rs 7).toNat = (BitVec.ofInt 64 (0xffff#16).toInt).toNat := by decide

theorem test_hyps_ConditionalMoves :
    (rig .default).x .rt 5 ≠ 0 ∧ (rig .default).x .rt 8 = 0 ∧ (rig .default).fcc 7 = false ∧
    ({ rig .default with fcsr := 0x80000000 } : State).fcc 7 = true := by decide

/-- FpRegisterMoves, FpLoads, FpStores, FpMoves, FpAlwaysFinishes: coprocessor 1 usable in both register
models, valid and invalid numbers, and indexed addresses inside and outside the region of their
base. -/
theorem test_hyps_fpu_transfers :
    (rig .default).cfg.cu1 = true ∧ (rig narrow).cfg.cu1 = true ∧ (rig narrow).validFpr 4 = true ∧
    (rig narrow).validFpr 5 = false ∧
    ((rig .default).x .rs 4 + (rig .default).x .rt 5).toNat / 2 ^ 62 =
      ((rig .default).x .rs 4).toNat / 2 ^ 62 ∧
    ((rig .default).x .rs 4 + (rigX 0x4000000000000000).x .rt 7).toNat / 2 ^ 62 ≠
      ((rig .default).x .rs 4).toNat / 2 ^ 62 ∧
    (rig .default).locate 0x4000000000002000 0x4000000000002000 4 .load =
      .ok ((List.range 4).map (0x4000000000002000 + ·)) := by decide

/-- FpStores: with the invariant, an odd number of the 32-bit model, and an indexed address outside the
region of its base. -/
theorem test_hyps_FpStores :
    (rig narrow).Inv ∧ (rigX 0x4000000000000000).Inv ∧ 8 ≤ narrow.psize ∧ 8 ≤ Config.default.psize ∧
    (rig narrow).validFpr 5 = false ∧ (8#16).toNat % 8 = 0 ∧
    (0x2008#64) = (rig narrow).x .rs 4 + (8#16).signExtend 64 ∧ (0x2008#64).toNat % 8 = 0 ∧
    (rig narrow).locate 0x2008 0x2008 8 .store = .ok ((List.range 8).map (0x2008 + ·)) ∧
    (0x4000000000002000#64) =
      (rigX 0x4000000000000000).x .rs 4 + (rigX 0x4000000000000000).x .rt 7 ∧
    ∀ n ∈ [4, 8], (0x4000000000002000#64).toNat % n = 0 ∧
      (rigX 0x4000000000000000).locate 0x4000000000002000 0x4000000000002000 n .store =
        .ok ((List.range n).map (0x4000000000002000 + ·)) :=
  ⟨rig_narrow_inv, rigX_region_inv, by decide⟩

/-- ControlRegisters: values that trap by E, by an enabled condition at either end of the field, and that do
not trap. -/
theorem test_hyps_ControlRegisters :
    (0x20000#32).toNat = ((rigX 0x20000).x .rt 7).toNat % 2 ^ 32 ∧ (0x20000#32).getLsbD 17 = true ∧
    (∃ k < 5, (0x10800#32).getLsbD (12 + k) = true ∧ (0x10800#32).getLsbD (7 + k) = true) ∧
    (∃ k < 5, (0x1080#32).getLsbD (12 + k) = true ∧ (0x1080#32).getLsbD (7 + k) = true) ∧
    (0x1f003#32).getLsbD 17 = false ∧
    ∀ k < 5, ¬((0x1f003#32).getLsbD (12 + k) = true ∧ (0x1f003#32).getLsbD (7 + k) = true) := by decide

/-- FormattedRegisterAccess, FpArithmetic, FpMultiplyAdd, FpConversions, FpCompares, FpMoves: operands held
with their format, uninterpreted, and in a pair of the 32-bit model; and a trap enabled or not. -/
theorem test_hyps_fpu_operands :
    (fpu .default 0x3fc00000 0x40100000 0).FprHolds 4 .s 0x3fc00000 ∧
    (fpu .default 0x3fc00000 0x40100000 0).FprHolds 6 .s 0x40100000 ∧
    (fpu narrow 0x3fc00000 0x40100000 5).FprHolds 8 .s 5 ∧
    (fpuD 0x3fc0000000000000 1).FprHolds 4 .d 0x3fc0000000000000 ∧
    ((rig narrow).loadFprDouble 4 (Reg.of 7)).FprHolds 4 .l 7 ∧
    ((rig .default).loadFgrWord 31 (Reg.of 9)).FprHolds 31 .w 9 ∧
    (fpuD 0 0).tag 4 = .is .d ∧ (rig .default).tag 4 = .unknown ∧
    (rig { Config.default with fprTags := .bits }).validFpr 4 = true ∧
    (fpuD 0 0).claimed .add .d 0 0 0 = false ∧
    (fpuD 0 0).fprIndex 4 ≠ (fpuD 0 0).fprIndex 6 ∧ (fpuD 0 0).cfg.fprTags = .strict ∧
    fpTraps 0x80 condI = true ∧ fpTraps 0 condI = false := by unfold State.FprHolds; decide

theorem test_hyps_FpAlwaysFinishes :
    (∀ i ∈ [Instr.addS 2 4 6, .cvtSD 2 4, .cLtD 7 4 6, .maddS 2 8 4 6], i.finishesFp = true) ∧
      (∀ i ∈ [Instr.movS 2 4, .movfD 2 4 7, .movzS 2 4 5], i.isFpMove = true) ∧
      (fpu .default 0 0 0).claimed .mov .s 0 0 0 = false ∧
      (rig .default).cfg.cu1 = true := by decide

/-- RoundingToAMultiple: 5/2 and 7/2 in each mode, a tie to even, an exact value, and 9/4, which lies
beyond 2 and short of 5/2. -/
theorem test_hyps_RoundingToAMultiple :
    ((-1 : Int) < 0 ∧ (4 : Nat) * (2 : ℚ) ^ ((-1 : Int) - 0) < 9 / 4 ∧
      9 / 4 < ((4 : Nat) + 1) * (2 : ℚ) ^ ((-1 : Int) - 0)) ∧
    roundAt 0 false 4 (-1) true 0 = (2, true) ∧
    (5 / 2 : ℚ) = ((5 : Nat) : ℚ) * (2 : ℚ) ^ ((-1 : Int) - 0) ∧
    roundAt 0 false 5 (-1) false 0 = (2, true) ∧ roundAt 0 false 7 (-1) false 0 = (4, true) ∧
    roundAt 1 false 5 (-1) false 0 = (2, true) ∧ roundAt 2 false 5 (-1) false 0 = (3, true) ∧
    roundAt 2 true 5 (-1) false 0 = (2, true) ∧ roundAt 3 true 5 (-1) false 0 = (3, true) ∧
    roundAt 0 false 4 (-1) false 0 = (2, false) ∧ roundAt 0 false 5 1 false 0 = (10, false) := by
  refine ⟨by norm_num, by decide, by norm_num, by decide⟩

/-- ResultIsExactUnlessInexact and OverflowResults: 3/2, and a little more than 1, in the binade of 2^0;
3 * 2^-150, a tiny magnitude, with FS clear and set; and the magnitude short of 2^128 that overflows by
rounding up. -/
theorem test_hyps_binades :
    ((2 : ℚ) ^ (0 : Int) ≤ (3 : Nat) * (2 : ℚ) ^ (-1 : Int) ∧
      (3 : Nat) * (2 : ℚ) ^ (-1 : Int) < (2 : ℚ) ^ ((0 : Int) + 1)) ∧
    ((2 : ℚ) ^ (0 : Int) ≤ (2 ^ 25 : Nat) * (2 : ℚ) ^ (-25 : Int) ∧
      (2 ^ 25 : Nat) * (2 : ℚ) ^ (-25 : Int) < (2 : ℚ) ^ ((0 : Int) + 1)) ∧
    ((2 : ℚ) ^ (-149 : Int) ≤ (3 : Nat) * (2 : ℚ) ^ (-150 : Int) ∧
      (3 : Nat) * (2 : ℚ) ^ (-150 : Int) < (2 : ℚ) ^ ((-149 : Int) + 1) ∧
      (12582912 : Nat) * (2 : ℚ) ^ ((-149 : Int) - 23) < (2 : ℚ) ^ (-126 : Int)) ∧
    ((2 : ℚ) ^ (127 : Int) ≤ (2 ^ 25 - 1 : Nat) * (2 : ℚ) ^ (103 : Int) ∧
      (2 ^ 25 - 1 : Nat) * (2 : ℚ) ^ (103 : Int) < (2 : ℚ) ^ ((127 : Int) + 1) ∧
      (2 : ℚ) ^ ((127 : Int) + 1) ≤ (2 ^ 24 : Nat) * (2 : ℚ) ^ ((127 : Int) - 23)) ∧
    fmtEmin .s = -126 ∧ fmtEmax .s = 127 ∧ fmtPrec .s = 24 ∧ 2 ^ (fmtPrec .s + 1) ≤ 2 ^ 25 ∧
    roundAt (fcsrRm 0) false 3 (-1) false (0 - 23) = (12582912, false) ∧
    roundAt (fcsrRm 0) false (2 ^ 25) (-25) true (0 - 23) = (8388608, true) ∧
    roundAt (fcsrRm 0) false 3 (-150) false (-149 - 23) = (12582912, false) ∧
    roundAt (fcsrRm 0) false 3 (-150) false (-126 - 23) = (2, true) ∧
    fcsrFlush 0 = false ∧ fcsrFlush 0x1000000 = true ∧ fcsrRm 0x1000000 = 0 ∧
    roundAt (fcsrRm 0) false (2 ^ 25 - 1) 103 false (127 - 23) = (2 ^ 24, true) := by
  refine ⟨?_, ?_, ?_, ?_, by decide⟩ <;> norm_num

/-- ResultIsExactUnlessInexact: a normal, a denormalized and a zero result. -/
theorem test_hyps_ResultIsExactUnlessInexact :
    roundValue .default 0 .s false 3 (-1) false = (0x3fc00000, 0) ∧
    roundValue .default 0 .s true 1 (-149) false = (0x80000001, 0) ∧
    roundValue .default 0x100 .s true 1 (-149) false = (0x80000001, condU) ∧
    roundValue .default 0 .d false 0 0 false = (0, 0) ∧ (condU &&& condI) = 0 := by decide

/-- SumAndProductRoundTheExactResult, QuotientAndRootRoundTheExactResult, ExceptionalOperands: 1.5, -0 and
-1.5. -/
theorem test_hyps_finite_operands :
    (decodeNum .s 0x3fc00000).isFinite = true ∧ (decodeNum .s 0x80000000).isFinite = true ∧
    (decodeNum .s 0x80000000).toRat = 0 ∧ (decodeNum .s 0x3fc00000).toRat = 3 / 2 ∧
    (decodeNum .s 0xbfc00000).toRat = -3 / 2 := by
  have h0 : decodeNum .s 0x80000000 = .fin true 0 (-149) := by decide
  have h1 : decodeNum .s 0x3fc00000 = .fin false 12582912 (-23) := by decide
  have h2 : decodeNum .s 0xbfc00000 = .fin true 12582912 (-23) := by decide
  rw [h0, h1, h2]
  refine ⟨by decide, by decide, ?_, ?_, ?_⟩ <;> norm_num [Num.toRat]

/-- QuotientAndRootRoundTheExactResult: parts with a reciprocal of their own and without, and results
that are kept. -/
theorem test_hyps_QuotientAndRoot :
    Config.default.recip = .default ∧ Config.default.rsqrt = .default ∧
    fpRecip .default 0 .s 0x40400000 = (0x3eaaaaab, condI) ∧
    fpRsqrt .default 0 .s 0x40000000 = (0x3f3504f3, condI) ∧
    (decodeNum .s 0x3eaaaaab).isFinite = true ∧ (decodeNum .s 0x3f3504f3).isFinite = true ∧
    condI &&& condO = 0 ∧ condI &&& condU = 0 := by decide

/-- FpMultiplyAdd: an invalid product, infinite products and addends of like and of unlike signs, finite
operands, both models, with the values 46_fpu_arith.md R513 gives. -/
theorem test_hyps_FpMultiplyAdd :
    let inf := 0x7f800000#64
    let ninf := 0xff800000#64
    let one := 0x3f800000#64
    let rounded : Config := { Config.default with madd := .rounded }
    decodeNum .s inf = .inf false ∧ decodeNum .s ninf = .inf true ∧ decodeNum .s 0 = .fin false 0 (-149) ∧
    decodeNum .s one = .fin false 8388608 (-23) ∧ Config.default.madd = .unrounded ∧
    rounded.madd = .rounded ∧ Config.default.qnan = .default ∧
    fpMadd .default 0 .madd false false .s one inf 0 = (0x7fbfffff, condV) ∧
    fpMadd .default 0 .madd false false .s ninf inf one = (0x7fbfffff, condV) ∧
    fpMadd .default 0 .nmsub true true .s ninf inf one = (ninf, condNone) ∧
    fpMadd .default 0 .msub true false .s inf one one = (ninf, condNone) ∧
    fpMadd .default 0 .msub true false .s 0x3f800002 0x3f800001 0x3f800001 = (0x28800000, condNone) ∧
    fpMadd rounded 0 .msub true false .s 0x3f800002 0x3f800001 0x3f800001 = (0, condI) := by decide

/-- FpConversions: operands of every kind, and integers of both signs. -/
theorem test_hyps_FpConversions :
    decodeNum .d 0x7ff8000000000000 = .nan true ∧ decodeNum .s 0x7fbfffff = .nan false ∧
    decodeNum .d 0xfff0000000000000 = .inf true ∧ (decodeNum .d 0x3fb999999999999a).isFinite = true ∧
    fpToFloat .default 0 .d .s 0x3fb999999999999a = (0x3dcccccd, condI) ∧
    fpFromFixed .default 0 .w .s 0xffffffff = (0xbf800000, condNone) ∧
    fpFromFixed .default 0 .l .d 0x8000000000000000 = (0xc3e0000000000000, condNone) := by decide

/-- FpArithmetic, ExceptionalOperands, CompareOutcomes, FixedPointConversion: NaNs, infinities
and zeros of both formats. -/
theorem test_hyps_ExceptionalOperands :
    decodeNum .s 0x7fc00001 = .nan true ∧ decodeNum .s 0x7fbfffff = .nan false ∧
    decodeNum .d 0x7ff8000000000000 = .nan true ∧ decodeNum .d 0x7ff0000000000001 = .nan false ∧
    decodeNum .s 0x7f800000 = .inf false ∧ decodeNum .d 0xfff0000000000000 = .inf true ∧
    decodeNum .d 0x8000000000000000 = .fin true 0 (-1074) ∧ Config.default.qnan = .default ∧
    (decodeNum .s 0x7fc00001).isNaN = true ∧ (decodeNum .s 0x7f7fffff).isFinite = true := by decide

/-- OverflowResults: the least magnitude of each format. -/
theorem test_hyps_OverflowResults :
    (2 : ℚ) ^ (fmtEmax .s + 1) ≤ ((1 : Nat) : ℚ) * (2 : ℚ) ^ (128 : Int) ∧
    (2 : ℚ) ^ (fmtEmax .d + 1) ≤ ((1 : Nat) : ℚ) * (2 : ℚ) ^ (1024 : Int) := by
  constructor <;> norm_num [fmtEmax]

/-- FixedPointConversion: the last numbers in range and the first out of it. -/
theorem test_hyps_FixedPointConversion :
    decodeNum .d 0x41dfffffffe00000 = .fin false 9007199252643840 (-22) ∧
    roundAt 1 false 9007199252643840 (-22) false 0 = (2147483647, true) ∧
    roundAt 2 false 9007199252643840 (-22) false 0 = (2147483648, true) ∧
    (-(2 ^ (fmtPrec .w - 1)) : Int) ≤ -2147483648 ∧ ¬(2147483648 : Int) ≤ 2 ^ (fmtPrec .w - 1) - 1 := by
  decide

end Sys2Proof.Tests
end

section
/-! SUPPORT. What executing an instruction can do to the state, said once for all instructions: a chain of
single updates and an ending, or an exception. The statements about every instruction follow from it. -/

namespace Sys2Proof

/-! ### Classes of instructions -/

/-- The instruction may write coprocessor 1 general registers and format tags (44_fpu_model.md R431,
R432). -/
def Instr.writesFpr (i : Instr) : Bool := i.finishesFp || i.isFpLoad || i.isFpMove

/-- CTC1 (45_fpu_transfer.md R484). -/
def Instr.isCtc1 : Instr → Bool
  | .ctc1 .. => true
  | _ => false

/-- The instruction may write the FCSR and complete (10_state.md R46). -/
def Instr.writesFcsr (i : Instr) : Bool := i.finishesFp || i.isCtc1

/-- MFHI and MFLO (41_cpu_alu.md R309, R310). -/
def Instr.readsHiLo : Instr → Bool
  | .mfhi .. | .mflo .. => true
  | _ => false

/-- The instruction, when it completes, ends in sequence and starts no HI/LO record. -/
def Instr.isPlain (i : Instr) : Bool := !i.isJump && !i.readsHiLo

theorem Instr.writesFpr_of_finishesFp {i : Instr} (h : i.finishesFp = true) : i.writesFpr = true := by
  simp [Instr.writesFpr, h]

theorem Instr.writesFcsr_of_finishesFp {i : Instr} (h : i.finishesFp = true) : i.writesFcsr = true := by
  simp [Instr.writesFcsr, h]

theorem Instr.writesFcsr_eq_false {i : Instr} (fp : i.finishesFp = false)
    (ctc1 : ∀ rt fs, i ≠ .ctc1 rt fs) : i.writesFcsr = false := by
  rw [Instr.writesFcsr, fp, Bool.false_or]
  unfold Instr.isCtc1
  split
  · exact absurd rfl (ctc1 _ _)
  · rfl

/-- The word an instruction is encoded in carries its primary opcode (30_encoding.md R139). -/
theorem opF_encode (i : Instr) : opF (encode i) = Laws.Opcode.primary i := by
  cases i <;> unfold encode <;>
    simp only [opF_iForm, opF_rForm, opF_jForm, opF_cForm, opF_tForm] <;> rfl

/-- Whatever writes coprocessor 1's registers is in one of its opcode classes. -/
theorem Instr.usesCop1_of_writesFpr {i : Instr} (h : i.writesFpr = true) : i.usesCop1 = true := by
  have classes : ∀ j : Instr, cond j.writesFpr
      ([0x11#6, 0x13#6, 0x31#6, 0x35#6, 0x39#6, 0x3d#6].contains (Laws.Opcode.primary j)) true = true := by
    intro j
    cases j <;> rfl
  unfold Instr.usesCop1
  split
  · rfl
  · rfl
  · rw [opF_encode]
    have class_i := classes i
    rwa [h, cond_true] at class_i

namespace Machine

/-! ### Register cells -/

/-- A cell that fits a 32-bit coprocessor 1 register (10_state.md R41). -/
def Reg.narrow (c : Reg) : Prop := (c.val ||| c.undef) &&& highHalf = 0

theorem Reg.clean_of (v : Word) : (Reg.of v).clean := BitVec.and_zero

theorem Reg.clean_unknown : Reg.unknown.clean := BitVec.zero_and

theorem low_and_high : lowHalf &&& highHalf = 0 := by decide

theorem and_lowHalf_and_highHalf (v : Word) : v &&& lowHalf &&& highHalf = 0 := by
  rw [BitVec.and_assoc, low_and_high]
  exact BitVec.and_zero

theorem shiftRight_and_highHalf (v : Word) : v >>> 32 &&& highHalf = 0 := by
  rw [show highHalf = BitVec.allOnes 64 <<< 32 by decide]
  ext j hj
  rw [BitVec.getElem_and, BitVec.getElem_shiftLeft, BitVec.getElem_ushiftRight]
  refine Eq.trans ?_ (BitVec.getElem_zero hj).symm
  by_cases h : j < 32
  · simp only [h, decide_true, Bool.not_true, Bool.false_and, Bool.and_false]
  · simp only [BitVec.getLsbD_of_ge v (32 + j) (by omega), Bool.false_and]

/-- The low word of a clean cell, on its own, is a clean cell of 32 bits. -/
theorem Reg.clean_low {c : Reg} (h : c.clean) :
    (Reg.mk (c.val &&& lowHalf) (c.undef &&& lowHalf)).clean := by
  calc c.val &&& lowHalf &&& (c.undef &&& lowHalf)
      = (c.val &&& c.undef) &&& lowHalf &&& lowHalf := by ac_rfl
    _ = 0 &&& lowHalf &&& lowHalf := by rw [h]
    _ = 0 := BitVec.zero_and

theorem Reg.narrow_low (c : Reg) : (Reg.mk (c.val &&& lowHalf) (c.undef &&& lowHalf)).narrow := by
  show (c.val &&& lowHalf ||| c.undef &&& lowHalf) &&& highHalf = 0
  rw [BitVec.and_or_distrib_right, and_lowHalf_and_highHalf, and_lowHalf_and_highHalf]
  exact BitVec.or_zero

/-- The low word of a clean cell, with the high word undefined, is clean. -/
theorem Reg.clean_low_or_high {c : Reg} (h : c.clean) :
    (Reg.mk (c.val &&& lowHalf) (c.undef &&& lowHalf ||| highHalf)).clean := by
  show c.val &&& lowHalf &&& (c.undef &&& lowHalf ||| highHalf) = 0
  rw [BitVec.and_or_distrib_left, and_lowHalf_and_highHalf]
  exact BitVec.or_zero.trans (Reg.clean_low h)

/-- The high word of a clean cell, moved down, is a clean cell of 32 bits. -/
theorem Reg.clean_shift {c : Reg} (h : c.clean) : (Reg.mk (c.val >>> 32) (c.undef >>> 32)).clean := by
  show c.val >>> 32 &&& c.undef >>> 32 = 0
  rw [← BitVec.ushiftRight_and_distrib, h]
  exact BitVec.zero_ushiftRight

theorem Reg.narrow_shift (c : Reg) : (Reg.mk (c.val >>> 32) (c.undef >>> 32)).narrow := by
  show (c.val >>> 32 ||| c.undef >>> 32) &&& highHalf = 0
  rw [BitVec.and_or_distrib_right, shiftRight_and_highHalf, shiftRight_and_highHalf]
  exact BitVec.or_zero

/-- `UNDEF_32` (44_fpu_model.md R433). -/
theorem Reg.undefWord_clean_narrow : (Reg.mk 0 lowHalf).clean ∧ (Reg.mk 0 lowHalf).narrow := by
  unfold Reg.clean Reg.narrow
  decide

/-! ### The unwritable bits of the FCSR (10_state.md R46) -/

/-- The bits of the FCSR that no instruction writes are 0. -/
def ReservedZero (f : BitVec 32) : Prop := f &&& 0x007c0000 = 0

theorem ReservedZero.or {f g : BitVec 32} (hf : ReservedZero f) (hg : ReservedZero g) :
    ReservedZero (f ||| g) := by
  unfold ReservedZero at *
  rw [BitVec.and_or_distrib_right, hf, hg]
  exact BitVec.or_zero

theorem ReservedZero.and {f : BitVec 32} (hf : ReservedZero f) (g : BitVec 32) :
    ReservedZero (f &&& g) := by
  unfold ReservedZero at *
  rw [BitVec.and_assoc, BitVec.and_comm g, ← BitVec.and_assoc, hf]
  exact BitVec.zero_and

theorem ReservedZero.setCause {f : BitVec 32} (hf : ReservedZero f) (c : Conds) :
    ReservedZero (setCause f c) := by
  have field : ∀ c : BitVec 6, c.setWidth 32 <<< 12 &&& 0x007c0000#32 = 0 := by decide
  exact (hf.and _).or (field c)

theorem ReservedZero.addFlags {f : BitVec 32} (hf : ReservedZero f) (c : Conds) :
    ReservedZero (addFlags f c) := by
  have field : ∀ c : BitVec 6, (c &&& 0b011111#6).setWidth 32 <<< 2 &&& 0x007c0000#32 = 0 := by decide
  exact hf.or (field c)

theorem ReservedZero.setFcc {s : State} (hf : ReservedZero s.fcsr) (cc : BitVec 3) (b : Bool) :
    ReservedZero (s.setFcc cc b).fcsr := by
  have field : ∀ (b : Bool) (cc : BitVec 3),
      (if b then 1#32 else 0#32) <<< fccBit cc &&& 0x007c0000#32 = 0 := by decide
  exact (hf.and _).or (field b cc)

theorem ReservedZero.and_writable (f : BitVec 32) : ReservedZero (f &&& fcsrWritable) := by
  have mask : fcsrWritable &&& 0x007c0000 = 0 := by decide
  unfold ReservedZero
  rw [BitVec.and_assoc, mask]
  exact BitVec.and_zero

/-! ### Single updates -/

/-- One update that instruction `i` may make of the state before it ends. -/
inductive Update (i : Instr) (s : State) : State → Prop
  /-- A general register. -/
  | gpr (r : RegNum) (c : Reg) (clean : c.clean) : Update i s (s.putX r c)
  /-- HI (10_state.md R35). -/
  | hi (c : Reg) (writer : i.writesHi = true) (clean : c.clean) : Update i s { s with hi := c }
  /-- LO (10_state.md R35). -/
  | lo (c : Reg) (writer : i.writesLo = true) (clean : c.clean) : Update i s { s with lo := c }
  /-- LLbit, which is cleared or left open (40_cpu_load_store.md R226). -/
  | unlink (b : Bool) (falls : b = true → s.llBit = true) : Update i s { s with llBit := b }
  /-- LLbit and LLaddr of a linked load (40_cpu_load_store.md R222, R223). -/
  | link (l : Link) (writer : i.isLinkedLoad = true) (width : l.width = 4 ∨ l.width = 8)
      (range : l.pa.toNat < 2 ^ s.cfg.psize) : Update i s { s with llBit := true, llAddr := l }
  /-- A coprocessor 1 general register (10_state.md R41). -/
  | fgr (n : RegNum) (c : Reg) (writer : i.writesFpr = true) (clean : c.clean)
      (narrow : s.cfg.fgr64 = false → c.narrow) : Update i s (s.putF n c)
  /-- A format tag (10_state.md R43). -/
  | tag (n : RegNum) (t : Tag) (writer : i.writesFpr = true) : Update i s (s.setTag n t)
  /-- The FCSR (10_state.md R46). -/
  | fcsr (f : BitVec 32) (writer : i.writesFcsr = true)
      (reserved : ReservedZero s.fcsr → ReservedZero f) : Update i s { s with fcsr := f }
  /-- A byte of memory (20_memory.md R91). -/
  | byte (c : Nat × Byte) (writer : i.isStore = true) (range : c.1 < 2 ^ s.cfg.psize) :
      Update i s (s.writeCell c)
  /-- A byte of memory that becomes undefined (45_fpu_transfer.md R485). -/
  | undefByte (a : Nat) (writer : i.isStore = true) (range : a < 2 ^ s.cfg.psize) :
      Update i s (s.undefCell a)

/-- A chain of updates. -/
abbrev Updates (i : Instr) : State → State → Prop := Relation.ReflTransGen (Update i)

/-- What every single update keeps, a chain of them keeps. -/
theorem Updates.keeps {i : Instr} {P : State → Prop}
    (one : ∀ s t, Update i s t → P s → P t) {s t : State} (h : Updates i s t) (hs : P s) : P t := by
  induction h with
  | refl => exact hs
  | tail _ hu ih => exact one _ _ hu ih

/-! ### Endings -/

/-- How an instruction that raises nothing ends, once its updates are made: in sequence, after MFHI and
MFLO with a new HI/LO record, or as a jump or branch (42_cpu_jump_branch.md R340). Each ending names the
instructions it belongs to. -/
inductive Ends (i : Instr) (s : State) : State → Prop
  | complete (plain : i.isPlain = true) : Ends i s s.complete
  | readHi (reader : ∃ rd, i = .mfhi rd) : Ends i s { s.complete with hiRd := .age0 }
  | readLo (reader : ∃ rd, i = .mflo rd) : Ends i s { s.complete with loRd := .age0 }
  | jump (jumps : i.isJump = true) (taken : Bool) (target : Word) : Ends i s (s.jumpTo taken target)
  | likely (jumps : i.isJump = true) (taken : Bool) (target : Word) :
      Ends i s (s.jumpLikely taken target)

/-- Everything the execution of `i` in `s` may lead to: an exception with the state as it was, a
Floating-Point exception with a new FCSR (60_exceptions.md R607), or updates and an ending. -/
inductive Effect (i : Instr) (s : State) : State → Prop
  | raised (e : Exc) : Effect i s (s.raise e)
  | raisedFp (f : BitVec 32) (writer : (i.writesFcsr || i.isFpMove) = true)
      (reserved : ReservedZero s.fcsr → ReservedZero f) :
      Effect i s ({ s with fcsr := f }.raise .floatingPoint)
  | ended {u t : State} (updates : Updates i s u) (ends : Ends i u t) : Effect i s t

end Machine

end Sys2Proof
end

section
/-! SUPPORT. The shared operations of the meanings as chains of updates, and what each of them may lead to
as an effect. -/

namespace Sys2Proof.Machine

open Sys2Proof

variable {i : Instr} {s t u : State}

/-! ### Operations that are chains of updates -/

theorem setX_updates (r : RegNum) (v : Word) : Updates i s (s.setX r v) :=
  .single (.gpr r _ (Reg.clean_of v))

theorem undefX_updates (r : RegNum) : Updates i s (s.undefX r) := .single (.gpr r _ Reg.clean_unknown)

theorem link_updates (r : RegNum) : Updates i s (s.link r) := setX_updates ..

theorem disturbLink_updates : Updates i s s.disturbLink := by
  unfold State.disturbLink
  split
  · next hl => exact .single (.unlink _ fun _ => hl)
  · exact .refl

theorem writeCells_updates {cs : List (Nat × Byte)} (writer : i.isStore = true)
    (range : ∀ c ∈ cs, c.1 < 2 ^ s.cfg.psize) : Updates i s (s.writeCells cs) := by
  induction cs generalizing s with
  | nil => exact .refl
  | cons c cs ih =>
    have first : Update i s (s.writeCell c) := .byte c writer (range c List.mem_cons_self)
    exact .head first (ih fun d hd => range d (List.mem_cons_of_mem c hd))

theorem undefCells_updates {as : List Nat} (writer : i.isStore = true)
    (range : ∀ a ∈ as, a < 2 ^ s.cfg.psize) : Updates i s (s.undefCells as) := by
  induction as generalizing s with
  | nil => exact .refl
  | cons a as ih =>
    have first : Update i s (s.undefCell a) := .undefByte a writer (range a List.mem_cons_self)
    exact .head first (ih fun b hb => range b (List.mem_cons_of_mem a hb))

theorem writeBytes_updates {va first : Word} {bs : List Byte} (writer : i.isStore = true)
    (h : s.writeBytes va first bs = .ok u) : Updates i s u := by
  obtain ⟨as, located, rfl⟩ := State.writeBytes_ok h
  exact writeCells_updates writer fun c hc => State.locate_lt located (List.of_mem_zip hc).1

theorem memWrite_updates {va : Word} {n : Nat} {v : Word} (writer : i.isStore = true)
    (h : s.memWrite va n v = .ok u) : Updates i s u := by
  obtain ⟨-, as, located, rfl⟩ := State.memWrite_ok h
  exact writeCells_updates writer fun c hc => State.locate_lt located (List.of_mem_zip hc).1

theorem memWriteUndef_updates {va : Word} {n : Nat} (writer : i.isStore = true)
    (h : s.memWriteUndef va n = .ok u) : Updates i s u := by
  obtain ⟨-, as, located, rfl⟩ := State.memWriteUndef_ok h
  exact undefCells_updates writer fun a ha => State.locate_lt located ha

/-- A translated address lies in the physical address space (20_memory.md R80). -/
theorem translated_lt {va : Word} {k : Access} {pa : Word} {cca : Cca}
    (h : s.translated va k = .ok (pa, cca)) : pa.toNat < 2 ^ s.cfg.psize := by
  unfold State.translated at h
  split at h
  · cases h
    rw [State.truncate, BitVec.toNat_ofNat]
    exact (Nat.mod_le _ _).trans_lt (Nat.mod_lt _ (by positivity))
  · cases h

theorem setLink_updates (va : Word) {n : Nat} (writer : i.isLinkedLoad = true) (width : n = 4 ∨ n = 8) :
    Updates i s (s.setLink va n) := by
  unfold State.setLink
  split
  · next translated => exact .single (.link _ writer width (translated_lt translated))
  · exact .refl

/-! ### Writes to coprocessor 1 registers -/

theorem setTag_updates (writer : i.writesFpr = true) (n : RegNum) (g : Tag) :
    Updates i s (s.setTag n g) := .single (.tag n g writer)

theorem loadFgrWord_updates (writer : i.writesFpr = true) (n : RegNum) {c : Reg} (clean : c.clean) :
    Updates i s (s.loadFgrWord n c) := by
  refine .tail (.single (.fgr n _ writer ?_ ?_)) (.tag n _ writer)
  · cases s.cfg.fgr64
    · exact (congrArg _ BitVec.or_zero).trans (Reg.clean_low clean)
    · exact Reg.clean_low_or_high clean
  · intro narrow
    rw [narrow]
    exact (congrArg (fun x => (_ ||| x) &&& highHalf) BitVec.or_zero).trans (Reg.narrow_low c)

theorem undefPair_updates (writer : i.writesFpr = true) (n : RegNum) :
    Updates i s (s.undefPair n) := by
  obtain ⟨clean, narrow⟩ := Reg.undefWord_clean_narrow
  have lower := Update.fgr (s := s) n _ writer clean fun _ => narrow
  exact .tail (.tail (.single lower) (.fgr (n ^^^ 1) _ writer clean fun _ => narrow)) (.tag n _ writer)

theorem putFprDouble_updates (writer : i.writesFpr = true) (n : RegNum) {c : Reg} (clean : c.clean) :
    Updates i s (s.putFprDouble n c) := by
  unfold State.putFprDouble
  split
  · next wide => exact .single (.fgr n c writer clean fun narrow => by simp [wide] at narrow)
  · have lower := Update.fgr (s := s) n _ writer (Reg.clean_low clean) fun _ => Reg.narrow_low c
    exact .tail (.single lower) (.fgr _ _ writer (Reg.clean_shift clean) fun _ => Reg.narrow_shift c)

theorem loadFprDouble_updates (writer : i.writesFpr = true) (n : RegNum) {c : Reg} (clean : c.clean) :
    Updates i s (s.loadFprDouble n c) := by
  unfold State.loadFprDouble
  split
  · exact .tail (putFprDouble_updates writer n clean) (.tag n _ writer)
  · exact undefPair_updates writer n

theorem indexedCell_clean (va : Word) (base : RegNum) (v : Word) : (s.indexedCell va base v).clean := by
  unfold State.indexedCell
  split
  · exact Reg.clean_of v
  · exact Reg.clean_unknown

theorem storeFpr_updates (writer : i.writesFpr = true) (n : RegNum) (fmt : Fmt) (v : Word) :
    Updates i s (s.storeFpr n fmt v) := by
  unfold State.storeFpr
  split
  · refine .tail ?_ (.tag n _ writer)
    split
    · exact putFprDouble_updates writer n (Reg.clean_of v)
    · split
      · next wide =>
        exact .single (.fgr n _ writer (and_lowHalf_and_highHalf v) fun narrow => by simp [wide] at narrow)
      · obtain ⟨clean, narrow⟩ := Reg.undefWord_clean_narrow
        have lower := Update.fgr (s := s) n { val := v &&& lowHalf, undef := 0 } writer BitVec.and_zero
          fun _ => (congrArg (· &&& highHalf) BitVec.or_zero).trans (and_lowHalf_and_highHalf v)
        exact .tail (.single lower) (.fgr _ _ writer clean fun _ => narrow)
  · exact undefPair_updates writer n

/-- Reading a formatted operand changes at most its tag (44_fpu_model.md R432). -/
theorem valueFpr_updates (writer : i.writesFpr = true) {site : DrawSite} {n : RegNum} {fmt : Fmt}
    {a : Word} (h : (a, u) = s.valueFpr site n fmt) : Updates i s u := by
  obtain rfl : u = (s.valueFpr site n fmt).2 := congrArg Prod.snd h
  simp only [State.valueFpr]
  split
  · exact .refl
  · split
    · split
      · split
        · exact .refl
        · exact setTag_updates writer ..
      · exact setTag_updates writer ..
      · exact .refl
    · exact .refl

end Sys2Proof.Machine
end

section
/-! SUPPORT. What each shared operation of the meanings may lead to as an effect, and so every
instruction. The classes an operation is used in are its hypotheses; for a given instruction they hold by
evaluation. -/

namespace Sys2Proof.Machine

open Sys2Proof

variable {i : Instr} {s t u : State}

/-! ### Guards -/

theorem withCu1_effect {k : Result} (h : s.withCu1 k = .next t) (inner : k = .next t → Effect i s t) :
    Effect i s t := by
  rcases State.withCu1_next h with ⟨-, h⟩ | ⟨-, rfl⟩
  · exact inner h
  · exact .raised _

theorem withCu2_effect {k : Result} (h : s.withCu2 k = .next t) (inner : k = .next t → Effect i s t) :
    Effect i s t := by
  rcases State.withCu2_next h with ⟨-, h⟩ | ⟨-, rfl⟩
  · exact inner h
  · exact .raised _

theorem ite_effect {p : Prop} [Decidable p] {k l : Result} (h : (if p then k else l) = .next t)
    (yes : k = .next t → Effect i s t) (no : l = .next t → Effect i s t) : Effect i s t := by
  split at h
  · exact yes h
  · exact no h

theorem raise_effect {e : Exc} (h : (.next (s.raise e) : Result) = .next t) : Effect i s t := by
  cases h
  exact .raised e

/-! ### Results in general registers -/

theorem complete_effect (h : (.next u.complete : Result) = .next t) (updates : Updates i s u)
    (plain : i.isPlain = true := by rfl) : Effect i s t := by
  cases h
  exact .ended updates (.complete plain)

theorem writeX_effect {r : RegNum} {v : Word} (h : s.writeX r v = .next t)
    (plain : i.isPlain = true := by rfl) : Effect i s t :=
  complete_effect h (setX_updates r v) plain

theorem writeWord_effect {b : Bool} {r : RegNum} {v : BitVec 32} (h : s.writeWord b r v = .next t)
    (plain : i.isPlain = true := by rfl) : Effect i s t := by
  rcases State.writeWord_next h with rfl | rfl
  · exact .ended (setX_updates ..) (.complete plain)
  · exact .ended (undefX_updates r) (.complete plain)

theorem addWord_effect {b : Bool} {r : RegNum} {x : Int} (h : s.addWord b r x = .next t)
    (plain : i.isPlain = true := by rfl) : Effect i s t := by
  rcases State.addWord_next h with rfl | rfl | rfl
  · exact .ended (setX_updates ..) (.complete plain)
  · exact .ended (undefX_updates r) (.complete plain)
  · exact .raised _

theorem addDouble_effect {r : RegNum} {x : Int} (h : s.addDouble r x = .next t)
    (plain : i.isPlain = true := by rfl) : Effect i s t := by
  rcases State.addDouble_next h with rfl | rfl
  · exact .ended (setX_updates ..) (.complete plain)
  · exact .raised _

/-- A conditional move of a general register changes that register or nothing. -/
theorem setX_if_updates (b : Bool) (r : RegNum) (v : Word) :
    Updates i s (if b then s.setX r v else s) := by
  split
  · exact setX_updates r v
  · exact .refl

theorem trapIf_effect {b : Bool} (h : s.trapIf b = .next t) (plain : i.isPlain = true := by rfl) :
    Effect i s t := by
  rcases State.trapIf_next h with ⟨-, rfl⟩ | ⟨-, rfl⟩
  · exact .raised _
  · exact .ended .refl (.complete plain)

/-! ### HI and LO -/

theorem writeHiLo_effect {c d : Reg} (h : s.writeHiLo c d = .next t) (cleanHi : c.clean)
    (cleanLo : d.clean) (hi : i.writesHi = true := by rfl) (lo : i.writesLo = true := by rfl)
    (plain : i.isPlain = true := by rfl) : Effect i s t := by
  obtain ⟨-, -, rfl⟩ := State.writeHiLo_next h
  have both : Updates i s (s.putHiLo c d) := .tail (.single (.hi c hi cleanHi)) (.lo d lo cleanLo)
  exact .ended both (.complete plain)

theorem undefHiLo_effect (h : s.undefHiLo = .next t) (hi : i.writesHi = true := by rfl)
    (lo : i.writesLo = true := by rfl) (plain : i.isPlain = true := by rfl) : Effect i s t :=
  writeHiLo_effect h Reg.clean_unknown Reg.clean_unknown hi lo plain

theorem writeHiLoWords_effect {b : Bool} {v w : BitVec 32} (h : s.writeHiLoWords b v w = .next t)
    (hi : i.writesHi = true := by rfl) (lo : i.writesLo = true := by rfl)
    (plain : i.isPlain = true := by rfl) : Effect i s t :=
  ite_effect h (fun h => writeHiLo_effect h (Reg.clean_of _) (Reg.clean_of _) hi lo plain)
    fun h => undefHiLo_effect h hi lo plain

/-! ### Jumps and branches -/

theorem jumpTo_effect {b : Bool} {a : Word} (h : s.branch (.next (u.jumpTo b a)) = .next t)
    (updates : Updates i s u) (jumps : i.isJump = true := by rfl) : Effect i s t := by
  obtain ⟨-, ends⟩ := State.branch_next h
  cases ends
  exact .ended updates (.jump jumps b a)

theorem jumpLikely_effect {b : Bool} {a : Word} (h : s.branch (.next (u.jumpLikely b a)) = .next t)
    (updates : Updates i s u) (jumps : i.isJump = true := by rfl) : Effect i s t := by
  obtain ⟨-, ends⟩ := State.branch_next h
  cases ends
  exact .ended updates (.likely jumps b a)

/-! ### Loads and stores -/

theorem load_effect {va : Word} {n : Nat} {f : State → Word → State} (h : s.load va n f = .next t)
    (write : ∀ v w, Updates i v (f v w)) (plain : i.isPlain = true := by rfl) : Effect i s t := by
  rcases State.load_next h with ⟨e, -, rfl⟩ | ⟨v, -, rfl⟩
  · exact .raised e
  · exact .ended (disturbLink_updates.trans (write _ v)) (.complete plain)

theorem loadPart_effect {va first : Word} {n : Nat} {f : State → Word → State}
    (h : s.loadPart va first n f = .next t) (write : ∀ v w, Updates i v (f v w))
    (plain : i.isPlain = true := by rfl) : Effect i s t := by
  rcases State.loadPart_next h with ⟨e, -, rfl⟩ | ⟨v, -, rfl⟩
  · exact .raised e
  · exact .ended (disturbLink_updates.trans (write _ _)) (.complete plain)

theorem store_effect {va : Word} {n : Nat} {v : Word} (h : s.store va n v = .next t)
    (writer : i.isStore = true := by rfl) (plain : i.isPlain = true := by rfl) : Effect i s t := by
  rcases State.store_next h with ⟨e, -, rfl⟩ | ⟨u, written, rfl⟩
  · exact .raised e
  · exact .ended ((memWrite_updates writer written).trans disturbLink_updates) (.complete plain)

theorem storeUndef_effect {va : Word} {n : Nat} (h : s.storeUndef va n = .next t)
    (writer : i.isStore = true := by rfl) (plain : i.isPlain = true := by rfl) : Effect i s t := by
  rcases State.storeUndef_next h with ⟨e, -, rfl⟩ | ⟨u, written, rfl⟩
  · exact .raised e
  · exact .ended ((memWriteUndef_updates writer written).trans disturbLink_updates) (.complete plain)

theorem storeFprDouble_effect {site : DrawSite} {n : RegNum} {va : Word}
    (h : s.storeFprDouble site n va = .next t) (writer : i.isStore = true := by rfl)
    (plain : i.isPlain = true := by rfl) : Effect i s t := by
  rcases State.storeFprDouble_next h with ⟨-, h⟩ | ⟨-, h⟩
  · exact store_effect h writer plain
  · exact storeUndef_effect h writer plain

theorem indexedStore_effect {va : Word} {base : RegNum} {n : Nat} {k : Result}
    (h : s.indexedStore va base n k = .next t) (inner : k = .next t → Effect i s t)
    (writer : i.isStore = true := by rfl) (plain : i.isPlain = true := by rfl) : Effect i s t := by
  rcases State.indexedStore_next h with h | h
  · exact inner h
  · exact storeUndef_effect h writer plain

theorem storePart_effect {va first : Word} {n : Nat} {v : Word}
    (h : s.storePart va first n v = .next t) (writer : i.isStore = true := by rfl)
    (plain : i.isPlain = true := by rfl) : Effect i s t := by
  rcases State.storePart_next h with ⟨e, -, rfl⟩ | ⟨u, written, rfl⟩
  · exact .raised e
  · exact .ended ((writeBytes_updates writer written).trans disturbLink_updates) (.complete plain)

theorem loadLinked_effect {va : Word} {n : Nat} {f : State → Word → State}
    (h : s.loadLinked va n f = .next t) (write : ∀ v w, Updates i v (f v w)) (width : n = 4 ∨ n = 8)
    (linked : i.isLinkedLoad = true := by rfl) (plain : i.isPlain = true := by rfl) :
    Effect i s t := by
  rcases State.loadLinked_next h with ⟨e, -, rfl⟩ | ⟨v, -, rfl⟩
  · exact .raised e
  · exact .ended ((write s v).trans (setLink_updates va linked width)) (.complete plain)

theorem storeConditional_effect {rt : RegNum} {va : Word} {n : Nat}
    (h : s.storeConditional rt va n = .next t) (writer : i.isStore = true := by rfl)
    (plain : i.isPlain = true := by rfl) : Effect i s t := by
  have outcome (u : State) (v : Word) : Updates i u { u.setX rt v with llBit := false } :=
    (setX_updates rt v).tail (.unlink false nofun)
  rcases State.storeConditional_next h with ⟨e, rfl⟩ | rfl | ⟨u, written, rfl⟩
  · exact .raised e
  · exact .ended (outcome s 0) (.complete plain)
  · exact .ended ((memWrite_updates writer written).trans (outcome u 1)) (.complete plain)

theorem loadCop2_effect {va : Word} {n : Nat} (h : s.loadCop2 va n = .next t) : Effect i s t := by
  obtain ⟨e, -, rfl⟩ := State.loadCop2_next h
  exact .raised e

theorem storeCop2_effect {va : Word} {n : Nat} (h : s.storeCop2 va n = .next t) : Effect i s t := by
  obtain ⟨e, rfl⟩ := State.storeCop2_next h
  exact .raised e

/-! ### Operations of the FPU -/

/-- FPResult (44_fpu_model.md R444), once the operands have been read. -/
theorem fpFinish_effect {op : FpOp} {fmt : Fmt} {a b d : Word} {c : Conds} {f : State → State}
    (h : s.fpFinish u op fmt a b d c f = .next t) (operands : Updates i s u)
    (write : ∀ v, Updates i v (f v)) (finishes : i.finishesFp = true) (plain : i.isPlain = true) :
    Effect i s t := by
  have writer := Instr.writesFcsr_of_finishesFp finishes
  obtain ⟨c', -, h⟩ := State.fpFinish_next h
  rcases State.fpResult_next h with ⟨-, rfl⟩ | ⟨-, rfl⟩
  · exact .raisedFp _ (by rw [writer, Bool.true_or]) fun reserved => reserved.setCause c'
  · have raised := Update.fcsr (s := u) _ writer fun reserved => (reserved.setCause c').addFlags c'
    exact .ended ((operands.tail raised).trans (write _)) (.complete plain)

theorem fpUnary_effect {op : FpOp} {src dst : Fmt} {f : Word → Word × Conds} {fd fs : RegNum}
    (h : s.fpUnary op src dst f fd fs = .next t) (finishes : i.finishesFp = true := by rfl)
    (plain : i.isPlain = true := by rfl) : Effect i s t := by
  have writer := Instr.writesFpr_of_finishesFp finishes
  rcases State.fpUnary_next h with ⟨-, rfl⟩ | ⟨-, a, u, hu, h⟩
  · exact .raised _
  · exact fpFinish_effect h (valueFpr_updates writer hu) (fun _ => storeFpr_updates writer ..) finishes plain

theorem fpBinary_effect {op : FpOp} {fmt : Fmt} {f : Word → Word → Word × Conds} {fd fs ft : RegNum}
    (h : s.fpBinary op fmt f fd fs ft = .next t) (finishes : i.finishesFp = true := by rfl)
    (plain : i.isPlain = true := by rfl) : Effect i s t := by
  have writer := Instr.writesFpr_of_finishesFp finishes
  rcases State.fpBinary_next h with ⟨-, rfl⟩ | ⟨-, a, b, u, v, hu, hv, h⟩
  · exact .raised _
  · exact fpFinish_effect h ((valueFpr_updates writer hu).trans (valueFpr_updates writer hv))
      (fun _ => storeFpr_updates writer ..) finishes plain

theorem fpTernary_effect {op : FpOp} {fmt : Fmt} {f : Word → Word → Word → Word × Conds}
    {fd fr fs ft : RegNum} (h : s.fpTernary op fmt f fd fr fs ft = .next t)
    (finishes : i.finishesFp = true := by rfl) (plain : i.isPlain = true := by rfl) :
    Effect i s t := by
  have writer := Instr.writesFpr_of_finishesFp finishes
  rcases State.fpTernary_next h with ⟨-, rfl⟩ | ⟨-, d, a, b, u, v, w, hu, hv, hw, h⟩
  · exact .raised _
  · have first_two := (valueFpr_updates writer hu).trans (valueFpr_updates writer hv)
    exact fpFinish_effect h (first_two.trans (valueFpr_updates writer hw))
      (fun _ => storeFpr_updates writer ..) finishes plain

theorem fpCompareOp_effect {cond : BitVec 4} {fmt : Fmt} {cc : BitVec 3} {fs ft : RegNum}
    (h : s.fpCompareOp cond fmt cc fs ft = .next t) (finishes : i.finishesFp = true := by rfl)
    (plain : i.isPlain = true := by rfl) : Effect i s t := by
  have writer := Instr.writesFpr_of_finishesFp finishes
  rcases State.fpCompareOp_next h with ⟨-, rfl⟩ | ⟨-, a, b, u, v, hu, hv, h⟩
  · exact .raised _
  · have condition (w : State) (r : Bool) : Update i w (w.setFcc cc r) :=
      .fcsr _ (Instr.writesFcsr_of_finishesFp finishes) fun reserved => reserved.setFcc cc r
    exact fpFinish_effect h ((valueFpr_updates writer hu).trans (valueFpr_updates writer hv))
      (fun w => .single (condition w _)) finishes plain

/-! ### Formatted moves -/

theorem moved_effect {op : FpOp} {fmt : Fmt} {fd src : RegNum} {site : DrawSite}
    (h : s.Moved t op fmt fd src site) (moves : i.isFpMove = true) (plain : i.isPlain = true) :
    Effect i s t := by
  have writer : i.writesFpr = true := by rw [Instr.writesFpr, moves, Bool.or_true]
  obtain ⟨v, u, hu, ⟨-, rfl⟩ | ⟨-, rfl⟩⟩ := h
  · exact .raisedFp _ (by rw [moves, Bool.or_true]) fun reserved => reserved.setCause condE
  · exact .ended ((valueFpr_updates writer hu).trans (storeFpr_updates writer ..)) (.complete plain)

theorem moveFpr_effect {op : FpOp} {fmt : Fmt} {fd src : RegNum} {site : DrawSite}
    (h : s.moveFpr op fmt fd src site = .next t) (moves : i.isFpMove = true := by rfl)
    (plain : i.isPlain = true := by rfl) : Effect i s t :=
  moved_effect (State.moveFpr_next h) moves plain

theorem moveFprIf_effect {op : FpOp} {b : Bool} {fmt : Fmt} {fd fs : RegNum}
    (h : s.moveFprIf op b fmt fd fs = .next t) (moves : i.isFpMove = true := by rfl)
    (plain : i.isPlain = true := by rfl) : Effect i s t := by
  rcases State.moveFprIf_next h with ⟨-, rfl⟩ | ⟨-, h⟩
  · exact .raised _
  · cases b
    · exact moved_effect h moves plain
    · exact moved_effect h moves plain

end Sys2Proof.Machine
end

section
/-! SUPPORT. The effect of every instruction. -/

namespace Sys2Proof.Machine

open Sys2Proof

variable {i : Instr} {s t : State}

/-- CTC1 once coprocessor 1 is usable (45_fpu_transfer.md R484). -/
theorem writeControl_effect {rt fs : RegNum} {f : BitVec 32}
    (h : (if fs = 31 then
        if fpTraps (f &&& fcsrWritable) (fcsrCause (f &&& fcsrWritable)) then
          .next ({ s with fcsr := f &&& fcsrWritable }.raise .floatingPoint)
        else .next { s with fcsr := f &&& fcsrWritable }.complete
      else .next s.complete : Result) = .next t) : Effect (.ctc1 rt fs) s t := by
  have reserved : ReservedZero s.fcsr → ReservedZero (f &&& fcsrWritable) :=
    fun _ => ReservedZero.and_writable f
  refine ite_effect h (fun h => ite_effect h (fun h => ?_) fun h => ?_) fun h => complete_effect h .refl
  · cases h
    exact .raisedFp _ rfl reserved
  · exact complete_effect h (.single (.fcsr _ rfl reserved))

/-- What executing any instruction can do, one group of the cases for each shared operation.
(`exec` is unfolded where Lean would try to unfold the operation instead.) -/
theorem exec_effect (h : exec i s = .next t) : Effect i s t := by
  cases i with
  | slti | sltiu | andi | ori | xori | lui | daddiu | daddu | dsubu | slt | sltu | and | or | xor | nor
  | sll | sllv | dsll | dsrl | dsra | dsll32 | dsrl32 | dsra32 | dsllv | dsrlv | dsrav =>
    exact writeX_effect h
  | addiu | addu | subu | srl | sra | srlv | srav => exact writeWord_effect h
  | addi | add | sub => exact addWord_effect h
  | daddi | dadd | dsub => exact addDouble_effect h
  | movn | movz => exact complete_effect h (setX_if_updates ..)
  | movf | movt => exact withCu1_effect h fun h => complete_effect h (setX_if_updates ..)
  | sync => exact complete_effect h .refl
  | pref => exact complete_effect h disturbLink_updates
  | prefx => exact withCu1_effect h fun h => complete_effect h disturbLink_updates
  | mult | multu => exact writeHiLoWords_effect h
  | dmult | dmultu => exact writeHiLo_effect h (Reg.clean_of _) (Reg.clean_of _)
  | div | divu =>
    exact ite_effect h (fun h => undefHiLo_effect h) fun h => writeHiLoWords_effect h
  | ddiv | ddivu =>
    exact ite_effect h (fun h => undefHiLo_effect h)
      fun h => writeHiLo_effect h (Reg.clean_of _) (Reg.clean_of _)
  | mfhi rd =>
    cases h
    exact .ended (setX_updates rd _) (.readHi ⟨rd, rfl⟩)
  | mflo rd =>
    cases h
    exact .ended (setX_updates rd _) (.readLo ⟨rd, rfl⟩)
  | mthi =>
    exact ite_effect h (fun h => complete_effect h (.single (.hi _ rfl (Reg.clean_of _)))) nofun
  | mtlo =>
    exact ite_effect h (fun h => complete_effect h (.single (.lo _ rfl (Reg.clean_of _)))) nofun
  | syscall | brk => exact raise_effect h
  | tge | tgeu | tlt | tltu | teq | tne | tgei | tgeiu | tlti | tltiu | teqi | tnei =>
    exact trapIf_effect h
  | j | jr | beq | bne | blez | bgtz | bltz | bgez => exact jumpTo_effect h .refl
  | jal => exact jumpTo_effect h (link_updates 31)
  | jalr => exact ite_effect h nofun fun h => jumpTo_effect h (link_updates _)
  | bltzal | bgezal => exact jumpTo_effect (linkCheck_next h).2 (link_updates 31)
  | beql | bnel | blezl | bgtzl | bltzl | bgezl => exact jumpLikely_effect h .refl
  | bltzall | bgezall => exact jumpLikely_effect (linkCheck_next h).2 (link_updates 31)
  | bc1f | bc1t => exact withCu1_effect h fun h => jumpTo_effect h .refl
  | bc1fl | bc1tl => exact withCu1_effect h fun h => jumpLikely_effect h .refl
  | cop0 => exact ite_effect h nofun raise_effect
  | cop2 => exact withCu2_effect h nofun
  | lwc2 | ldc2 => exact withCu2_effect h fun h => loadCop2_effect (offsetCheck_next h).2
  | swc2 | sdc2 => exact withCu2_effect h fun h => storeCop2_effect (offsetCheck_next h).2
  | lb | lbu | lh | lhu =>
    unfold exec at h
    exact load_effect h fun _ _ => setX_updates ..
  | lw | lwu | ld => exact load_effect (offsetCheck_next h).2 fun _ _ => setX_updates ..
  | lwl =>
    unfold exec execLwl at h
    exact loadPart_effect h fun _ _ => setX_updates ..
  | lwr =>
    unfold exec execLwr at h
    exact loadPart_effect h fun _ _ => setX_updates ..
  | ldl =>
    unfold exec execLdl at h
    exact loadPart_effect h fun _ _ => setX_updates ..
  | ldr =>
    unfold exec execLdr at h
    exact loadPart_effect h fun _ _ => setX_updates ..
  | sb | sh => exact store_effect h
  | sw | sd => exact store_effect (offsetCheck_next h).2
  | swl | swr | sdl | sdr => exact storePart_effect h
  | ll => exact loadLinked_effect (offsetCheck_next h).2 (fun _ _ => setX_updates ..) (.inl rfl)
  | lld => exact loadLinked_effect (offsetCheck_next h).2 (fun _ _ => setX_updates ..) (.inr rfl)
  | sc | scd => exact storeConditional_effect (offsetCheck_next h).2
  | lwc1 =>
    exact withCu1_effect h fun h => load_effect (offsetCheck_next h).2
      fun _ _ => loadFgrWord_updates rfl _ (Reg.clean_of _)
  | ldc1 =>
    exact withCu1_effect h fun h => load_effect (offsetCheck_next h).2
      fun _ _ => loadFprDouble_updates rfl _ (Reg.clean_of _)
  | lwxc1 =>
    exact withCu1_effect h fun h => load_effect h
      fun _ _ => loadFgrWord_updates rfl _ (indexedCell_clean ..)
  | ldxc1 =>
    exact withCu1_effect h fun h => load_effect h
      fun _ _ => loadFprDouble_updates rfl _ (indexedCell_clean ..)
  | swc1 => exact withCu1_effect h fun h => store_effect (offsetCheck_next h).2
  | sdc1 => exact withCu1_effect h fun h => storeFprDouble_effect (offsetCheck_next h).2
  | swxc1 => exact withCu1_effect h fun h => indexedStore_effect h fun h => store_effect h
  | sdxc1 => exact withCu1_effect h fun h => indexedStore_effect h fun h => storeFprDouble_effect h
  | mfc1 => exact withCu1_effect h fun h => complete_effect h (setX_updates ..)
  | dmfc1 rt fs =>
    refine withCu1_effect h fun h => complete_effect h ?_
    split
    · exact setX_updates ..
    · exact undefX_updates rt
  | cfc1 rt fs =>
    refine withCu1_effect h fun h => complete_effect h ?_
    split
    · exact setX_updates ..
    · split
      · exact setX_updates ..
      · exact undefX_updates rt
  | mtc1 =>
    exact withCu1_effect h fun h => complete_effect h (loadFgrWord_updates rfl _ (Reg.clean_of _))
  | dmtc1 =>
    exact withCu1_effect h fun h => complete_effect h (loadFprDouble_updates rfl _ (Reg.clean_of _))
  | ctc1 rt fs => exact withCu1_effect h writeControl_effect
  | addS | addD | subS | subD | mulS | mulD | divS | divD => exact fpBinary_effect h
  | maddS | maddD | msubS | msubD | nmaddS | nmaddD | nmsubS | nmsubD => exact fpTernary_effect h
  | sqrtS | sqrtD | absS | absD | negS | negD | recipS | recipD | rsqrtS | rsqrtD
  | roundLS | roundLD | truncLS | truncLD | ceilLS | ceilLD | floorLS | floorLD
  | roundWS | roundWD | truncWS | truncWD | ceilWS | ceilWD | floorWS | floorWD
  | cvtSD | cvtSW | cvtSL | cvtDS | cvtDW | cvtDL | cvtWS | cvtWD | cvtLS | cvtLD =>
    exact fpUnary_effect h
  | cFS | cUnS | cEqS | cUeqS | cOltS | cUltS | cOleS | cUleS | cSfS | cNgleS | cSeqS | cNglS | cLtS
  | cNgeS | cLeS | cNgtS | cFD | cUnD | cEqD | cUeqD | cOltD | cUltD | cOleD | cUleD | cSfD | cNgleD
  | cSeqD | cNglD | cLtD | cNgeD | cLeD | cNgtD =>
    exact fpCompareOp_effect h
  | movS | movD => exact withCu1_effect h fun h => moveFpr_effect h
  | movfS | movfD | movtS | movtD | movnS | movnD | movzS | movzD => exact moveFprIf_effect h

end Sys2Proof.Machine
end

section
/-! PROOFS. Every step keeps the invariant: each single update does, each ending does, and so does taking
an exception. -/

namespace Sys2Proof.Machine

open Sys2Proof

variable {i : Instr} {s t u : State}

/-! ### Single updates -/

/-- What holds of every cell and of a new one holds of every cell after the write. -/
theorem forall_getElem_set {α : Type} {n k : Nat} {P : α → Prop} {v : Vector α n} {x : α} (hk : k < n)
    (all : ∀ r : Fin n, P v[r]) (new : P x) : ∀ r : Fin n, P (v.set k x hk)[r] := by
  intro r
  rw [Fin.getElem_fin, Vector.getElem_set]
  split
  · exact new
  · exact all r

theorem State.Inv.putX (hs : s.Inv) (r : RegNum) {c : Reg} (clean : c.clean) : (s.putX r c).Inv := by
  obtain ⟨gpr, hi, lo, fgr⟩ := hs.clean
  unfold State.putX
  split
  · exact hs
  · next hr =>
    have r_ne_zero : r.toNat ≠ 0 := fun e => hr (BitVec.eq_of_toNat_eq e)
    exact { hs with
      x0 := (Vector.getElem_set_ne r.isLt _ r_ne_zero).trans hs.x0
      clean := ⟨forall_getElem_set r.isLt gpr clean, hi, lo, fgr⟩ }

theorem State.Inv.putF (hs : s.Inv) (n : RegNum) {c : Reg} (clean : c.clean)
    (narrow : s.cfg.fgr64 = false → c.narrow) : (s.putF n c).Inv := by
  obtain ⟨gpr, hi, lo, fgr⟩ := hs.clean
  exact { hs with
    clean := ⟨gpr, hi, lo, forall_getElem_set n.isLt fgr clean⟩
    narrow := fun h => forall_getElem_set (P := Reg.narrow) n.isLt (hs.narrow h) (narrow h) }

/-- In the 32-bit register model only even FPRs have a tag, so an odd one keeps none. -/
theorem State.Inv.setTag (hs : s.Inv) (n : RegNum) (g : Tag) : (s.setTag n g).Inv := by
  unfold State.setTag
  split
  · refine { hs with oddTags := fun narrow m odd => ?_ }
    have even : ∀ n : BitVec 5, (n &&& 30).toNat % 2 = 0 := by decide
    have other : (s.fprIndex n).toNat ≠ m.val := by
      have := even n
      rw [State.fprIndex, narrow]
      simp only [Bool.false_eq_true, if_false]
      omega
    exact (Vector.getElem_set_ne (s.fprIndex n).isLt _ other).trans (hs.oddTags narrow m odd)
  · exact hs

theorem State.Inv.writeCell (hs : s.Inv) {c : Nat × Byte} (range : c.1 < 2 ^ s.cfg.psize) :
    (s.writeCell c).Inv where
  __ := hs
  mem := Memory.wf_write _ _ hs.mem
  memRange d hd := by
    rcases Memory.mem_write_sub hd with rfl | old
    · exact range
    · exact hs.memRange d old
  stored := rising_insertAddr hs.stored
  storedRange a ha := by
    rcases mem_insertAddr.mp ha with rfl | old
    · exact range
    · exact hs.storedRange a old
  undefMem := rising_filter _ hs.undefMem
  undefStored a ha := by
    obtain ⟨old, ne⟩ := List.mem_filter.mp ha
    obtain ⟨stored, unlisted⟩ := hs.undefStored a old
    exact ⟨mem_insertAddr.mpr (.inr stored),
      (Memory.read_write_other _ (by simpa using ne)).trans unlisted⟩

theorem State.Inv.undefCell (hs : s.Inv) {a : Nat} (range : a < 2 ^ s.cfg.psize) :
    (s.undefCell a).Inv where
  __ := hs
  mem := Memory.wf_write _ _ hs.mem
  memRange d hd := by
    rcases Memory.mem_write_sub hd with rfl | old
    · exact range
    · exact hs.memRange d old
  stored := rising_insertAddr hs.stored
  storedRange b hb := by
    rcases mem_insertAddr.mp hb with rfl | old
    · exact range
    · exact hs.storedRange b old
  undefMem := rising_insertAddr hs.undefMem
  undefStored b hb := by
    by_cases same : b = a
    · subst same
      exact ⟨mem_insertAddr.mpr (.inl rfl), Memory.read_write_same b _ hs.mem⟩
    · obtain ⟨stored, unlisted⟩ := hs.undefStored b ((mem_insertAddr.mp hb).resolve_left same)
      exact ⟨mem_insertAddr.mpr (.inr stored), (Memory.read_write_other _ same).trans unlisted⟩

/-- A running state with the invariant stays one under any update; a trapped one has no link to set. -/
theorem Update.inv (h : Update i s t) (hs : s.Inv ∧ s.trap = none) : t.Inv ∧ t.trap = none := by
  obtain ⟨hs, running⟩ := hs
  cases h with
  | gpr r c clean => exact ⟨hs.putX r clean, by rw [State.putX_trap, running]⟩
  | hi c _ clean =>
    obtain ⟨gpr, -, lo, fgr⟩ := hs.clean
    exact ⟨{ hs with clean := ⟨gpr, clean, lo, fgr⟩ }, running⟩
  | lo c _ clean =>
    obtain ⟨gpr, hi, -, fgr⟩ := hs.clean
    exact ⟨{ hs with clean := ⟨gpr, hi, clean, fgr⟩ }, running⟩
  | unlink b falls =>
    exact ⟨{ hs with
      trapped := fun trapped => by simp [running] at trapped
      link := fun set => hs.link (falls set) }, running⟩
  | link l _ width range =>
    exact ⟨{ hs with
      trapped := fun trapped => by simp [running] at trapped
      link := fun _ => ⟨width, range⟩ }, running⟩
  | fgr n c _ clean narrow => exact ⟨hs.putF n clean narrow, running⟩
  | tag n g _ => exact ⟨hs.setTag n g, by rw [State.setTag_trap, running]⟩
  | fcsr f _ reserved => exact ⟨{ hs with fcsr := reserved hs.fcsr }, running⟩
  | byte c _ range => exact ⟨hs.writeCell range, running⟩
  | undefByte a _ range => exact ⟨hs.undefCell range, running⟩

theorem Update.cfg_eq (h : Update i s t) : t.cfg = s.cfg := by
  cases h with
  | gpr => exact State.putX_cfg ..
  | tag => exact State.setTag_cfg ..
  | hi | lo | unlink | link | fgr | fcsr | byte | undefByte => rfl

/-! ### Endings and exceptions -/

theorem Ends.inv (h : Ends i s t) (hs : s.Inv) (running : s.trap = none) : t.Inv := by
  have no_trap {p : Prop} : s.trap.isSome = true → p := fun trapped => by simp [running] at trapped
  cases h with
  | complete | readHi | readLo => exact { hs with slot := fun _ => rfl, trapped := no_trap }
  | jump => exact { hs with slot := nofun, trapped := no_trap }
  | likely _ taken target =>
    cases taken
    · have skipped : s.npc + 8 = s.npc + 4 + 4 := by rw [BitVec.add_assoc]; rfl
      exact { hs with slot := fun _ => skipped, trapped := no_trap }
    · exact { hs with slot := nofun, trapped := no_trap }

theorem Ends.cfg_eq (h : Ends i s t) : t.cfg = s.cfg := by
  cases h with
  | likely => exact State.jumpLikely_cfg ..
  | complete | readHi | readLo | jump => rfl

theorem State.Inv.raise (hs : s.Inv) (e : Exc) : (s.raise e).Inv :=
  { hs with trapped := fun _ => ⟨rfl, rfl, rfl⟩, link := nofun }

theorem State.Inv.withFcsr (hs : s.Inv) {f : BitVec 32} (reserved : ReservedZero f) :
    ({ s with fcsr := f } : State).Inv := { hs with fcsr := reserved }

theorem State.Inv.popInterrupt (hs : s.Inv) : s.popInterrupt.Inv := { hs with }

/-! ### The step -/

/-- No instruction breaks the invariant or changes a parameter. -/
theorem Effect.inv (h : Effect i s t) (hs : s.Inv) (running : s.trap = none) :
    t.Inv ∧ t.cfg = s.cfg := by
  cases h with
  | raised e => exact ⟨hs.raise e, rfl⟩
  | raisedFp f _ reserved => exact ⟨(hs.withFcsr (reserved hs.fcsr)).raise _, rfl⟩
  | ended updates ends =>
    obtain ⟨hu, running⟩ := updates.keeps (fun _ _ => Update.inv) ⟨hs, running⟩
    have same_cfg := updates.keeps (P := fun v => v.cfg = s.cfg) (fun _ _ h => h.cfg_eq.trans) rfl
    exact ⟨ends.inv hu running, ends.cfg_eq.trans same_cfg⟩

/-- Nor does a word that is no instruction. -/
theorem badWord_inv {e : DecodeError} (h : s.badWord e = .next t) (hs : s.Inv) :
    t.Inv ∧ t.cfg = s.cfg := by
  rcases State.badWord_next h with ⟨x, -, rfl⟩ | rfl
  · exact ⟨hs.raise x, rfl⟩
  · have cause : ReservedZero 0x20000#32 := by unfold ReservedZero; decide
    have reserved := (ReservedZero.and hs.fcsr (~~~0x3f000#32)).or cause
    exact ⟨(hs.withFcsr reserved).raise _, rfl⟩

/-- Settles O3: the step is a Handler's continuation, which is checked, an exception, or the execution of
an instruction. -/
theorem stepKeepsInvariant : Obligations.StepKeepsInvariant := by
  intro s t hs h
  have popped := hs.popInterrupt
  rcases step_next h with ⟨-, handled⟩ |
    ⟨running, ⟨-, rfl⟩ | ⟨-, ⟨e, rfl⟩ | ⟨bs, i, -, -, executed⟩ | ⟨e, bad⟩⟩⟩
  · obtain ⟨-, no_trap, same_cfg, -, legal⟩ := State.handle_next handled
    exact ⟨State.inv_of_legal legal no_trap, same_cfg⟩
  · exact ⟨popped.raise _, rfl⟩
  · exact ⟨popped.raise e, rfl⟩
  · exact (exec_effect executed).inv popped running
  · exact badWord_inv (s := s.popInterrupt) bad popped

end Sys2Proof.Machine
end

section
/-! PROOFS. Which instructions write which state: each single update is of a kind that the instruction's
class allows, and an ending writes none of these kinds. -/

namespace Sys2Proof.Machine

open Sys2Proof

variable {i : Instr} {s t u : State}

/-! ### All kinds of state but the FCSR -/

/-- What an instruction leaves as it was, by its class (10_state.md R35, R39). -/
structure WrittenBy (i : Instr) (s t : State) : Prop where
  mem : i.isStore = false → t.mem = s.mem ∧ t.stored = s.stored ∧ t.undefMem = s.undefMem
  hi : i.writesHi = false → t.hi = s.hi
  lo : i.writesLo = false → t.lo = s.lo
  link : i.isLinkedLoad = false → t.llAddr = s.llAddr ∧ (s.llBit = false → t.llBit = false)
  fpr : i.writesFpr = false → t.fgr = s.fgr ∧ t.tags = s.tags

theorem WrittenBy.refl : WrittenBy i s s :=
  ⟨fun _ => ⟨rfl, rfl, rfl⟩, fun _ => rfl, fun _ => rfl, fun _ => ⟨rfl, id⟩, fun _ => ⟨rfl, rfl⟩⟩

theorem WrittenBy.trans (h : WrittenBy i s t) (k : WrittenBy i t u) : WrittenBy i s u where
  mem no := by
    obtain ⟨mem, stored, undefMem⟩ := h.mem no
    obtain ⟨mem', stored', undefMem'⟩ := k.mem no
    exact ⟨mem'.trans mem, stored'.trans stored, undefMem'.trans undefMem⟩
  hi no := (k.hi no).trans (h.hi no)
  lo no := (k.lo no).trans (h.lo no)
  link no := by
    obtain ⟨llAddr, llBit⟩ := h.link no
    obtain ⟨llAddr', llBit'⟩ := k.link no
    exact ⟨llAddr'.trans llAddr, llBit' ∘ llBit⟩
  fpr no := by
    obtain ⟨fgr, tags⟩ := h.fpr no
    obtain ⟨fgr', tags'⟩ := k.fpr no
    exact ⟨fgr'.trans fgr, tags'.trans tags⟩

theorem Update.writtenBy (h : Update i s t) : WrittenBy i s t := by
  have same : WrittenBy i s s := .refl
  cases h with
  | gpr r c =>
    unfold State.putX
    split
    · exact same
    · exact { same with }
  | hi c writer => exact { same with hi := fun no => by simp [no] at writer }
  | lo c writer => exact { same with lo := fun no => by simp [no] at writer }
  | unlink b falls =>
    have stays : s.llBit = false → b = false := fun clear => by simpa [clear] using falls
    exact { same with link := fun _ => ⟨rfl, stays⟩ }
  | link l writer => exact { same with link := fun no => by simp [no] at writer }
  | fgr n c writer => exact { same with fpr := fun no => by simp [no] at writer }
  | tag n g writer =>
    unfold State.setTag
    split
    · exact { same with fpr := fun no => by simp [no] at writer }
    · exact same
  | fcsr f => exact { same with }
  | byte c writer => exact { same with mem := fun no => by simp [no] at writer }
  | undefByte a writer => exact { same with mem := fun no => by simp [no] at writer }

theorem Ends.writtenBy (h : Ends i s t) : WrittenBy i s t := by
  have same : WrittenBy i s s := .refl
  cases h with
  | complete | readHi | readLo | jump => exact { same with }
  | likely _ taken =>
    cases taken
    · exact { same with }
    · exact { same with }

/-- An exception clears LLbit; the rest is as it was (60_exceptions.md R620). -/
theorem raise_writtenBy (f : BitVec 32) (e : Exc) :
    WrittenBy i s ({ s with fcsr := f }.raise e) :=
  { (WrittenBy.refl : WrittenBy i s s) with link := fun _ => ⟨rfl, fun _ => rfl⟩ }

theorem Effect.writtenBy (h : Effect i s t) : WrittenBy i s t := by
  cases h with
  | raised e => exact raise_writtenBy s.fcsr e
  | raisedFp f => exact raise_writtenBy f _
  | ended updates ends =>
    have updated := updates.keeps (P := WrittenBy i s) (fun _ _ h k => k.trans h.writtenBy) .refl
    exact updated.trans ends.writtenBy

/-! ### The FCSR -/

theorem Update.fcsr_eq (h : Update i s t) (no : i.writesFcsr = false) : t.fcsr = s.fcsr := by
  cases h with
  | gpr => exact State.putX_fcsr ..
  | tag => exact State.setTag_fcsr ..
  | fcsr f writer => simp [no] at writer
  | hi | lo | unlink | link | fgr | byte | undefByte => rfl

theorem Ends.fcsr_eq (h : Ends i s t) : t.fcsr = s.fcsr := by
  cases h with
  | likely => exact State.jumpLikely_fcsr ..
  | complete | readHi | readLo | jump => rfl

/-- A formatted move writes the FCSR only when it raises Unimplemented Operation (log 27). -/
theorem Effect.fcsr_eq (h : Effect i s t) (no : i.writesFcsr = false)
    (move : i.isFpMove = true → t.trap = none) : t.fcsr = s.fcsr := by
  cases h with
  | raised e => rfl
  | raisedFp f writer =>
    rw [no, Bool.false_or] at writer
    cases move writer
  | ended updates ends =>
    have updated := updates.keeps (P := fun v => v.fcsr = s.fcsr) (fun _ _ h => (h.fcsr_eq no).trans) rfl
    exact ends.fcsr_eq.trans updated

/-! ### The statement -/

/-- Settles O12, from what any instruction's effect writes. -/
theorem writersOfEachState : Obligations.WritersOfEachState := by
  intro i s t h
  have effect := exec_effect h
  obtain ⟨mem, hi, lo, link, fpr⟩ := effect.writtenBy
  refine ⟨mem, hi, lo, link, fun fp ctc1 move => ?_, fun cop1 => fpr ?_, fun fp load move => ?_⟩
  · exact effect.fcsr_eq (Instr.writesFcsr_eq_false fp ctc1) move
  · rw [← Bool.not_eq_true] at cop1 ⊢
    exact mt Instr.usesCop1_of_writesFpr cop1
  · have no_writer : i.writesFpr = false := by rw [Instr.writesFpr, fp, load, move]; rfl
    exact (fpr no_writer).1

end Sys2Proof.Machine
end

section
/-! PROOFS. Rounding to a multiple: where the exact value lies past its truncation, and what each rounding
mode then delivers (10_state.md R53). -/

namespace Sys2Proof.Machine

open Sys2Proof

variable {x : ℚ} {n rem half mant : Nat} {exp q : Int} {rm : BitVec 2} {neg rest : Bool}

/-! ### Where the exact value lies -/

/-- Something of the exact value lies past its truncation. -/
def Inexact (rem : Nat) (rest : Bool) : Prop := rem ≠ 0 ∨ rest = true

/-- `x` lies past its truncation `n` as `roundsUp` is told: `rem`, and with `rest` a little more, in units
of which `half` make one half. -/
structure Beyond (x : ℚ) (n rem half : Nat) (rest : Bool) : Prop where
  exact : ¬Inexact rem rest → x = n
  above : Inexact rem rest → n < x
  below : x < n + 1
  lower : rem < half → x < n + 1 / 2
  tie : rem = half → rest = false → x = n + 1 / 2
  upper : half < rem ∨ rem = half ∧ rest = true → n + 1 / 2 < x

theorem Beyond.le (b : Beyond x n rem half rest) : (n : ℚ) ≤ x := by
  by_cases h : Inexact rem rest
  · exact (b.above h).le
  · exact (b.exact h).ge

/-- The exact value, given in the units of `rem`. -/
theorem beyond_of_units (pos : 0 < half) (small : rem < 2 * half)
    (units : if rest then (n * (2 * half) + rem : ℚ) < x * (2 * half) ∧
        x * (2 * half) < n * (2 * half) + rem + 1
      else x * (2 * half) = n * (2 * half) + rem) : Beyond x n rem half rest := by
  have scale : (0 : ℚ) < 2 * half := by positivity
  have low : (n * (2 * half) + rem : ℚ) ≤ x * (2 * half) := by
    cases rest
    · exact units.ge
    · exact units.1.le
  have high : x * (2 * half) < n * (2 * half) + rem + 1 := by
    cases rest
    · exact units.trans_lt (lt_add_one _)
    · exact units.2
  have lt_of_scaled {y z : ℚ} : y * (2 * half) < z * (2 * half) → y < z :=
    fun h => lt_of_mul_lt_mul_right h scale.le
  have eq_of_scaled {y z : ℚ} : y * (2 * half) = z * (2 * half) → y = z :=
    mul_right_cancel₀ scale.ne'
  constructor
  · intro exact_value
    obtain ⟨rfl, rfl⟩ : rem = 0 ∧ rest = false := by simpa [Inexact] using exact_value
    exact eq_of_scaled (units.trans (by simp))
  · intro inexact
    refine lt_of_scaled ?_
    cases rest
    · have : (0 : ℚ) < rem := by exact_mod_cast Nat.pos_of_ne_zero (inexact.resolve_right nofun)
      exact (lt_add_of_pos_right _ this).trans_le low
    · exact (le_add_of_nonneg_right (Nat.cast_nonneg rem)).trans_lt units.1
  · refine lt_of_scaled ?_
    have : (rem + 1 : ℚ) ≤ 2 * half := by exact_mod_cast small
    linarith
  · intro less
    refine lt_of_scaled ?_
    have : (rem + 1 : ℚ) ≤ half := by exact_mod_cast less
    linarith
  · rintro rfl rfl
    refine eq_of_scaled (units.trans ?_)
    ring
  · intro more
    refine lt_of_scaled ?_
    rcases more with more | ⟨rfl, rfl⟩
    · have : (half + 1 : ℚ) ≤ rem := by exact_mod_cast more
      linarith
    · have := units.1
      linarith

/-- What is to be rounded, as the statement gives it: `mant * 2 ^ exp`, or with `rest` between that and the
next multiple of `2 ^ exp`, in units of `2 ^ q`. -/
def Magnitude (mant : Nat) (exp : Int) (rest : Bool) (q : Int) (x : ℚ) : Prop :=
  if rest then exp < q ∧ mant * (2 : ℚ) ^ (exp - q) < x ∧ x < (mant + 1) * (2 : ℚ) ^ (exp - q)
  else x = mant * (2 : ℚ) ^ (exp - q)

/-- Truncating `mant` by `k` > 0 bits. -/
theorem beyond_of_shift {k : Nat} (pos : 0 < k) (shift : exp - q = -(k : Int))
    (h : Magnitude mant exp rest q x) : Beyond x (mant >>> k) (mant % 2 ^ k) (2 ^ (k - 1)) rest := by
  have twice : 2 * 2 ^ (k - 1) = 2 ^ k := mul_pow_sub_one pos.ne' 2
  have twice_rat : (2 * (2 ^ (k - 1) : Nat) : ℚ) = 2 ^ k := by exact_mod_cast twice
  have split : ((mant >>> k : Nat) * 2 ^ k + (mant % 2 ^ k : Nat) : ℚ) = mant := by
    rw [Nat.shiftRight_eq_div_pow]
    exact_mod_cast Nat.div_add_mod' mant (2 ^ k)
  have scale : (0 : ℚ) < 2 ^ k := by positivity
  refine beyond_of_units (by positivity) (twice ▸ Nat.mod_lt _ (by positivity)) ?_
  rw [twice_rat, split]
  unfold Magnitude at h
  rw [shift, zpow_neg, zpow_natCast, ← div_eq_mul_inv, ← div_eq_mul_inv] at h
  cases rest
  · exact (eq_div_iff scale.ne').mp h
  · exact ⟨(div_lt_iff₀ scale).mp h.2.1, (lt_div_iff₀ scale).mp h.2.2⟩

/-! ### When rounding goes up -/

theorem roundsUp_nearest : roundsUp 0 neg n rem half rest = true ↔
    half < rem ∨ rem = half ∧ (rest = true ∨ n % 2 = 1) := by
  simp [roundsUp]

theorem roundsUp_zero : roundsUp 1 neg n rem half rest = false := rfl

theorem roundsUp_plus : roundsUp 2 neg n rem half rest = true ↔ neg = false ∧ Inexact rem rest := by
  simp [roundsUp, Inexact]

theorem roundsUp_minus : roundsUp 3 neg n rem half rest = true ↔ neg = true ∧ Inexact rem rest := by
  simp [roundsUp, Inexact]

/-- In no mode does an exact value go up. -/
theorem inexact_of_roundsUp (pos : 0 < half) (up : roundsUp rm neg n rem half rest = true) :
    Inexact rem rest := by
  have modes : ∀ r : BitVec 2, r = 0 ∨ r = 1 ∨ r = 2 ∨ r = 3 := by decide
  rcases modes rm with rfl | rfl | rfl | rfl
  · left
    rcases roundsUp_nearest.mp up with h | ⟨rfl, -⟩ <;> omega
  · cases up
  · exact (roundsUp_plus.mp up).2
  · exact (roundsUp_minus.mp up).2

/-! ### What rounding delivers -/

/-- The truncation, or one more. -/
def delivered (n : Nat) (up : Bool) : Nat := if up then n + 1 else n

/-- `roundAt` truncates and delivers what `roundsUp` says, and reports whether anything was cut off. -/
theorem roundAt_delivers {m : Nat} {inexact : Bool} (hx : Magnitude mant exp rest q x)
    (h : roundAt rm neg mant exp rest q = (m, inexact)) :
    ∃ n rem half, 0 < half ∧ Beyond x n rem half rest ∧
      m = delivered n (roundsUp rm neg n rem half rest) ∧ (inexact = true ↔ Inexact rem rest) := by
  unfold roundAt at h
  split at h
  · next no_shift =>
    have no_rest : rest = false := by
      cases rest
      · rfl
      · exact absurd hx.1 (not_lt.mpr no_shift)
    subst no_rest
    obtain ⟨rfl, rfl⟩ := Prod.mk.inj h
    obtain ⟨k, hk⟩ := Int.eq_ofNat_of_zero_le (sub_nonneg.mpr no_shift)
    have not_up : roundsUp rm neg (mant <<< k) 0 1 false = false := by
      by_contra up
      rcases inexact_of_roundsUp one_pos (by simpa using up) with h | h <;> contradiction
    have value : x = (mant <<< k : Nat) := by
      rw [show x = _ from hx, hk, Nat.shiftLeft_eq, zpow_natCast]
      norm_cast
    refine ⟨mant <<< k, 0, 1, one_pos, beyond_of_units one_pos (by omega) ?_, ?_, by simp [Inexact]⟩
    · simp [value]
    · rw [not_up, hk]
      rfl
  · next shift =>
    obtain ⟨rfl, rfl⟩ := Prod.mk.inj h
    exact ⟨_, _, _, by positivity, beyond_of_shift (k := (q - exp).toNat) (by omega) (by omega) hx, rfl,
      by simp [Inexact]⟩

theorem delivered_eq_iff {up : Bool} (b : Beyond x n rem half rest)
    (inexact : up = true → Inexact rem rest) : (delivered n up : ℚ) = x ↔ ¬Inexact rem rest := by
  cases up
  · refine ⟨fun equal h => (b.above h).ne equal, fun h => (b.exact h).symm⟩
  · refine iff_of_false (fun equal => b.below.ne ?_) (not_not.mpr (inexact rfl))
    rw [← equal]
    exact Nat.cast_succ n

theorem delivered_within_one {up : Bool} (b : Beyond x n rem half rest)
    (inexact : up = true → Inexact rem rest) : |(delivered n up : ℚ) - x| < 1 := by
  have le := b.le
  have below := b.below
  rw [abs_lt]
  cases up
  · constructor <;> simp only [delivered, Bool.false_eq_true, if_false] <;> linarith
  · have above := b.above (inexact rfl)
    constructor <;> simp only [delivered, if_true, Nat.cast_succ] <;> linarith

/-- Rounding toward the zero of the magnitude. -/
theorem delivered_le (b : Beyond x n rem half rest) : (delivered n false : ℚ) ≤ x := b.le

/-- Rounding away from the zero of the magnitude, whenever something was cut off. -/
theorem le_delivered {up : Bool} (b : Beyond x n rem half rest) (h : up = true ↔ Inexact rem rest) :
    x ≤ delivered n up := by
  cases up
  · exact (b.exact (mt h.mpr nofun)).le
  · exact b.below.le.trans_eq (Nat.cast_succ n).symm

/-- To nearest: at most half a unit off, and at exactly half a unit the even multiple. -/
theorem delivered_nearest {up : Bool} (b : Beyond x n rem half rest)
    (h : up = true ↔ half < rem ∨ rem = half ∧ (rest = true ∨ n % 2 = 1)) :
    |(delivered n up : ℚ) - x| ≤ 1 / 2 ∧
      (|(delivered n up : ℚ) - x| = 1 / 2 → delivered n up % 2 = 0) := by
  have le := b.le
  have below := b.below
  cases up
  · have error : |(delivered n false : ℚ) - x| = x - n := by
      rw [abs_sub_comm]
      exact abs_of_nonneg (sub_nonneg.mpr le)
    obtain ⟨not_more, not_tie⟩ := not_or.mp (mt h.mpr nofun)
    rw [error]
    rcases (not_lt.mp not_more).lt_or_eq with less | equal
    · have := b.lower less
      exact ⟨by linarith, fun half_unit => by linarith⟩
    · obtain ⟨no_rest, not_odd⟩ := not_or.mp fun k => not_tie ⟨equal, k⟩
      have := b.tie equal (by simpa using no_rest)
      exact ⟨by linarith, fun _ => Nat.mod_two_ne_one.mp not_odd⟩
  · have error : |(delivered n true : ℚ) - x| = n + 1 - x := by
      rw [show (delivered n true : ℚ) = n + 1 from Nat.cast_succ n]
      exact abs_of_nonneg (sub_nonneg.mpr below.le)
    rw [error]
    by_cases more : half < rem ∨ rem = half ∧ rest = true
    · have := b.upper more
      exact ⟨by linarith, fun half_unit => by linarith⟩
    · obtain ⟨not_less, not_rest⟩ := not_or.mp more
      obtain ⟨equal, odd⟩ := (h.mp rfl).resolve_left not_less
      have no_rest : ¬rest = true := fun k => not_rest ⟨equal, k⟩
      have := b.tie equal (by simpa using no_rest)
      exact ⟨by linarith, fun _ => Nat.succ_mod_two_eq_zero_iff.mpr (odd.resolve_left no_rest)⟩

/-- Settles O53, mode by mode. -/
theorem roundingToAMultiple : Obligations.RoundingToAMultiple := by
  intro rm neg mant exp q x rest m inexact hx h
  obtain ⟨n, rem, half, pos, b, rfl, reported⟩ := roundAt_delivers hx h
  have up_inexact := inexact_of_roundsUp (rm := rm) (neg := neg) (n := n) (rest := rest) (rem := rem) pos
  refine ⟨?_, delivered_within_one b up_inexact, ?_, ?_, ?_, ?_⟩
  · rw [delivered_eq_iff b up_inexact, ← reported, Bool.not_eq_true]
  · rintro rfl
    exact delivered_nearest b roundsUp_nearest
  · rintro rfl
    rw [roundsUp_zero]
    exact delivered_le b
  · rintro rfl
    cases neg
    · exact le_delivered b (roundsUp_plus.trans (and_iff_right rfl))
    · exact delivered_le b
  · rintro rfl
    cases neg
    · exact delivered_le b
    · exact le_delivered b (roundsUp_minus.trans (and_iff_right rfl))

end Sys2Proof.Machine
end

section
/-! PROOFS. Values and their bytes (20_memory.md R84): in either byte order a value is the number whose
digits to the base 256 are its bytes, taken from the least significant end. -/

namespace Sys2Proof.Machine

open Sys2Proof

variable {big : Bool} {bs : List Byte} {v : Word} {n k : Nat}

/-- Bytes in address order, put in order of significance. -/
def leastFirst (big : Bool) (bs : List Byte) : List Byte := if big then bs.reverse else bs

@[simp] theorem leastFirst_length : (leastFirst big bs).length = bs.length := by
  cases big
  · rfl
  · exact List.length_reverse

/-- The place of a byte in the order of significance. -/
theorem leastFirst_getElem (h : k < bs.length)
    (place : (if big then bs.length - 1 - k else k) < (leastFirst big bs).length) :
    (leastFirst big bs)[if big then bs.length - 1 - k else k] = bs[k] := by
  cases big
  · rfl
  · have back : bs.length - 1 - (bs.length - 1 - k) = k := by omega
    simp [leastFirst, back]

/-- One step of `valueOfBytes`: the byte goes below the value of the more significant ones. -/
def appendByte (b : Byte) (acc : Word) : Word := (acc <<< 8) ||| b.setWidth 64

theorem valueOfBytes_eq_foldr (big : Bool) (bs : List Byte) :
    valueOfBytes big bs =
      (leastFirst big bs).foldr appendByte 0 := by
  cases big
  · exact List.foldl_reverse
  · exact List.foldr_reverse.symm

/-- No bit is lost below a value of fewer than eight bytes. -/
theorem toNat_appendByte {acc : Word} {b : Byte} (small : acc.toNat < 2 ^ 56) :
    (appendByte b acc).toNat = b.toNat + 256 * acc.toNat := by
  have no_wrap : acc.toNat * 2 ^ 8 < 2 ^ 64 := by omega
  have byte : b.toNat < 2 ^ 64 := by omega
  rw [appendByte, BitVec.toNat_or, BitVec.toNat_shiftLeft, BitVec.toNat_setWidth, Nat.shiftLeft_eq,
    Nat.mod_eq_of_lt no_wrap, Nat.mod_eq_of_lt byte, mul_comm, ← Nat.two_pow_add_eq_or_of_lt b.isLt]
  omega

theorem ofDigits_bytes_lt (ds : List Byte) :
    Nat.ofDigits 256 (ds.map BitVec.toNat) < 256 ^ ds.length := by
  have digits : ∀ d ∈ ds.map BitVec.toNat, d < 256 := by
    simp only [List.mem_map]
    rintro _ ⟨b, -, rfl⟩
    exact b.isLt
  simpa using Nat.ofDigits_lt_base_pow_length (b := 256) (by decide) digits

theorem toNat_foldr_appendByte (ds : List Byte) (h : ds.length ≤ 8) :
    (ds.foldr appendByte 0).toNat = Nat.ofDigits 256 (ds.map BitVec.toNat) := by
  induction ds with
  | nil => rfl
  | cons b ds ih =>
    have shorter : ds.length ≤ 7 := Nat.le_of_succ_le_succ h
    have value := ih (by omega)
    have small : Nat.ofDigits 256 (ds.map BitVec.toNat) < 2 ^ 56 :=
      (ofDigits_bytes_lt ds).trans_le (Nat.pow_le_pow_right (n := 256) (by decide) shorter)
    rw [List.foldr_cons, toNat_appendByte (by rwa [value]), value, List.map_cons,
      Nat.ofDigits_cons]

theorem valueOfBytes_toNat (h : bs.length ≤ 8) :
    (valueOfBytes big bs).toNat = Nat.ofDigits 256 ((leastFirst big bs).map BitVec.toNat) := by
  rw [valueOfBytes_eq_foldr, toNat_foldr_appendByte _ (by rwa [leastFirst_length])]

theorem valueOfBytes_lt (h : bs.length ≤ 8) : (valueOfBytes big bs).toNat < 2 ^ (8 * bs.length) := by
  rw [valueOfBytes_toNat h, pow_mul, ← leastFirst_length (big := big)]
  exact ofDigits_bytes_lt _

/-- A digit is found by dividing away those below it. -/
theorem ofDigits_bytes_div_mod (ds : List Byte) (h : k < ds.length) :
    Nat.ofDigits 256 (ds.map BitVec.toNat) / 2 ^ (8 * k) % 2 ^ 8 = ds[k].toNat := by
  induction ds generalizing k with
  | nil => cases h
  | cons b ds ih =>
    have byte := b.isLt
    rw [List.map_cons, Nat.ofDigits_cons]
    cases k with
    | zero => simp; omega
    | succ k =>
      have rest : (b.toNat + 256 * Nat.ofDigits 256 (ds.map BitVec.toNat)) / 2 ^ 8 =
          Nat.ofDigits 256 (ds.map BitVec.toNat) := by omega
      rw [Nat.mul_succ, Nat.add_comm (8 * k), pow_add, ← Nat.div_div_eq_div_mul]
      rw [rest, ih (Nat.lt_of_succ_lt_succ h), List.getElem_cons_succ]

theorem valueOfBytes_byte (h : k < bs.length) (short : bs.length ≤ 8) :
    (valueOfBytes big bs).toNat / 2 ^ (8 * if big then bs.length - 1 - k else k) % 2 ^ 8 =
      bs[k].toNat := by
  have place : (if big then bs.length - 1 - k else k) < (leastFirst big bs).length := by
    rw [leastFirst_length]
    split <;> omega
  rw [valueOfBytes_toNat short, ofDigits_bytes_div_mod _ place, leastFirst_getElem h]

theorem leastFirst_bytesOfValue (big : Bool) (v : Word) (n : Nat) :
    leastFirst big (bytesOfValue big v n) = (List.range n).map fun i => v.extractLsb' (8 * i) 8 := by
  cases big
  · rfl
  · exact List.reverse_reverse _

/-- The lowest `n` digits of a number make up its remainder modulo `256 ^ n`. -/
theorem ofDigits_low_bytes (v : Word) (n : Nat) :
    Nat.ofDigits 256 (((List.range n).map fun i => v.extractLsb' (8 * i) 8).map BitVec.toNat) =
      v.toNat % 256 ^ n := by
  induction n with
  | zero => simp [Nat.mod_one]
  | succ n ih =>
    have digit : (v.extractLsb' (8 * n) 8).toNat = v.toNat / 256 ^ n % 256 := by
      rw [BitVec.extractLsb'_toNat, Nat.shiftRight_eq_div_pow, pow_mul]
      rfl
    rw [List.range_succ, List.map_append, List.map_append, Nat.ofDigits_append, ih, Nat.mod_pow_succ]
    simp [digit]

/-- Settles O25, through the digits to the base 256. -/
theorem byteOrder : Obligations.ByteOrder := by
  refine ⟨fun big bs k h short => valueOfBytes_byte h short, fun big bs short => valueOfBytes_lt short,
    bytesOfValue_length, fun big v n short => ?_⟩
  rw [valueOfBytes_toNat (by rwa [bytesOfValue_length]), leastFirst_bytesOfValue, ofDigits_low_bytes,
    pow_mul]
  rfl

end Sys2Proof.Machine
end

section
/-! PROOFS. Where the bytes of an access lie (20_memory.md R80, R85, R86, R96): what the translation table
answers, and what the memory system does with the physical bytes. -/

namespace Sys2Proof.Machine

open Sys2Proof

variable {s : State} {va first pa : Word} {n : Nat} {k : Access} {r : Region} {rs : List Region}
  {cca : Cca} {e : XlateFault} {as : List Nat}

/-! ### The translation table -/

theorem regionCovers_iff : regionCovers r va k = true ↔ r.first ≤ va ∧ va ≤ r.last ∧ k ∈ r.kinds := by
  simp [regionCovers, and_assoc]

theorem State.translateVa_of_nil (h : s.cfg.translate = []) :
    s.translateVa va k = .ok va .cachedNoncoherent := by
  simp [State.translateVa, h]

/-- The first region of the table, if it covers the access and answers an address, moves it. -/
theorem State.translateVa_of_ok (table : s.cfg.translate = r :: rs)
    (covers : regionCovers r va k = true) (answer : r.answer = .ok pa cca) :
    s.translateVa va k = .ok (pa + (va - r.first)) cca := by
  simp [State.translateVa, table, covers, answer]

/-- The first region of the table, if it covers the access and answers an exception, raises it. -/
theorem State.translateVa_of_exception (table : s.cfg.translate = r :: rs)
    (covers : regionCovers r va k = true) (answer : r.answer = .exception e) :
    s.translateVa va k = .exception e := by
  simp [State.translateVa, table, covers, answer]

/-! ### The physical bytes -/

/-- With 64 physical address bits no address is cut (20_memory.md R80). -/
theorem State.truncate_of_psize (h : s.cfg.psize = 64) (a : Word) : s.truncate a = a := by
  rw [State.truncate, h, Nat.mod_eq_of_lt a.isLt, BitVec.ofNat_toNat, BitVec.setWidth_eq]

theorem State.physBytes_of_psize (h : s.cfg.psize = 64) (pa : Word) (n : Nat) :
    s.physBytes pa n = (List.range n).map fun i =>
      ((pa + BitVec.ofNat 64 i) ^^^ (if s.cfg.reverseEndian then 7 else 0)).toNat := by
  refine List.map_congr_left fun i _ => ?_
  rw [State.physByte, h, Nat.mod_eq_of_lt (BitVec.isLt _)]

theorem State.backed_of_nil (h : s.cfg.unbacked = []) : s.backed as = true := by
  simp [State.backed, h]

theorem State.backed_eq_false {lo hi a : Nat} (missing : (lo, hi) ∈ s.cfg.unbacked) (ha : a ∈ as)
    (above : lo ≤ a) (below : a ≤ hi) : s.backed as = false := by
  rw [← Bool.not_eq_true]
  intro backed
  have outside := List.all_eq_true.mp (List.all_eq_true.mp backed a ha) _ missing
  simp [above, below] at outside

/-! ### The access -/

theorem State.locate_of_exception (h : s.translateVa va k = .exception e) :
    s.locate va first n k = .error (xlateExc e va k) := by
  simp only [State.locate, State.translated, h]

theorem State.locate_of_ok (h : s.translateVa va k = .ok pa cca) (size : s.cfg.psize = 64) :
    s.locate va first n k =
      if s.backed (s.physBytes (pa + (first - va)) n) then .ok (s.physBytes (pa + (first - va)) n)
      else .error (.busError va k) := by
  simp only [State.locate, State.translated, h, State.truncate_of_psize size]

/-- Settles O26: no region, a region that raises, a region that moves, a missing byte. -/
theorem accessLocation : Obligations.AccessLocation := by
  intro s va first n k
  have back (a b : Word) : a + (b - a) = b := by rw [add_comm, BitVec.sub_add_cancel]
  refine ⟨fun table size backing => ?_, fun r rs e table above below kind answer => ?_,
    fun r rs pa cca table above below kind answer size backing order => ?_,
    fun lo hi i table size order missing index above below => ?_⟩
  · rw [State.locate_of_ok (State.translateVa_of_nil table) size, if_pos (State.backed_of_nil backing),
      back, State.physBytes_of_psize size]
  · have covers := regionCovers_iff.mpr ⟨above, below, kind⟩
    exact State.locate_of_exception (State.translateVa_of_exception table covers answer)
  · have covers := regionCovers_iff.mpr ⟨above, below, kind⟩
    have place : pa + (va - r.first) + (first - va) = pa + (first - r.first) := by
      ring
    rw [State.locate_of_ok (State.translateVa_of_ok table covers answer) size,
      if_pos (State.backed_of_nil backing), place, State.physBytes_of_psize size]
    simp [order]
  · have listed : (first + BitVec.ofNat 64 i).toNat ∈ s.physBytes first n := by
      rw [State.physBytes_of_psize size, List.mem_map]
      exact ⟨i, List.mem_range.mpr index, by simp [order]⟩
    rw [State.locate_of_ok (State.translateVa_of_nil table) size, back,
      State.backed_eq_false missing listed above below]
    rfl

end Sys2Proof.Machine
end

section
/-! PROOFS. The exceptions of loads and stores (20_memory.md R93 to R96): what each shared operation raises
when its access is misaligned, or is not located. -/

namespace Sys2Proof.Machine

open Sys2Proof

variable {i : Instr} {s : State} {e : Exc} {va first : Word} {n k : Nat}

/-! ### Taking an exception -/

/-- What an exception leaves behind (60_exceptions.md R620). -/
theorem State.raise_trapped (s : State) (e : Exc) : Trapped s (s.raise e) e := by
  constructor <;> rfl

theorem raises_of_exec (h : exec i s = .next (s.raise e)) : Raises i s e :=
  ⟨_, h, s.raise_trapped e, rfl⟩

/-- The two ways an aligned access fails, both by running the instruction. -/
theorem accessRaises_of {kind : Access}
    (misaligned : va.toNat % n ≠ 0 → exec i s = .next (s.raise (.addressError va kind)))
    (fails : ∀ e, va.toNat % n = 0 → s.locate va va n kind = .error e → exec i s = .next (s.raise e)) :
    AccessRaises i s va n kind :=
  ⟨fun h => raises_of_exec (misaligned h), fun e h l => raises_of_exec (fails e h l)⟩

/-! ### The accesses to memory -/

theorem aligned_eq_false (h : va.toNat % n ≠ 0) : aligned va n = false := by
  simpa [aligned] using h

theorem State.readBytes_error (h : s.locate va first n .load = .error e) :
    s.readBytes va first n = .error e := by
  simp only [State.readBytes, h]

theorem State.writeBytes_error {bs : List Byte} (h : s.locate va first bs.length .store = .error e) :
    s.writeBytes va first bs = .error e := by
  simp only [State.writeBytes, h]

theorem State.memRead_misaligned (h : va.toNat % n ≠ 0) :
    s.memRead va n = .error (.addressError va .load) := by
  simp [State.memRead, aligned_eq_false h]

theorem State.memRead_error (h : va.toNat % n = 0) (l : s.locate va va n .load = .error e) :
    s.memRead va n = .error e := by
  simp [State.memRead, (aligned_iff va n).mpr h, State.readBytes_error l]

theorem State.memWrite_misaligned {v : Word} (h : va.toNat % n ≠ 0) :
    s.memWrite va n v = .error (.addressError va .store) := by
  simp [State.memWrite, aligned_eq_false h]

theorem State.memWrite_error {v : Word} (h : va.toNat % n = 0)
    (l : s.locate va va n .store = .error e) : s.memWrite va n v = .error e := by
  rw [State.memWrite, if_pos ((aligned_iff va n).mpr h)]
  exact State.writeBytes_error (by rwa [bytesOfValue_length])

theorem State.memWriteUndef_misaligned (h : va.toNat % n ≠ 0) :
    s.memWriteUndef va n = .error (.addressError va .store) := by
  simp [State.memWriteUndef, aligned_eq_false h]

theorem State.memWriteUndef_error (h : va.toNat % n = 0) (l : s.locate va va n .store = .error e) :
    s.memWriteUndef va n = .error e := by
  simp [State.memWriteUndef, (aligned_iff va n).mpr h, l]

/-! ### The shared operations of the loads and stores -/

theorem State.load_error {f : State → Word → State} (h : s.memRead va n = .error e) :
    s.load va n f = .next (s.raise e) := by
  simp only [State.load, h]

theorem State.loadLinked_error {f : State → Word → State} (h : s.memRead va n = .error e) :
    s.loadLinked va n f = .next (s.raise e) := by
  simp only [State.loadLinked, h]

theorem State.store_error {v : Word} (h : s.memWrite va n v = .error e) :
    s.store va n v = .next (s.raise e) := by
  simp only [State.store, State.finishStore, h]

theorem State.storeUndef_error (h : s.memWriteUndef va n = .error e) :
    s.storeUndef va n = .next (s.raise e) := by
  simp only [State.storeUndef, State.finishStore, h]

theorem load_raises {f : State → Word → State} (h : exec i s = s.load va n f) :
    AccessRaises i s va n .load :=
  accessRaises_of (fun a => h.trans (State.load_error (State.memRead_misaligned a)))
    fun _ a l => h.trans (State.load_error (State.memRead_error a l))

theorem loadLinked_raises {f : State → Word → State} (h : exec i s = s.loadLinked va n f) :
    AccessRaises i s va n .load :=
  accessRaises_of (fun a => h.trans (State.loadLinked_error (State.memRead_misaligned a)))
    fun _ a l => h.trans (State.loadLinked_error (State.memRead_error a l))

theorem store_raises {v : Word} (h : exec i s = s.store va n v) : AccessRaises i s va n .store :=
  accessRaises_of (fun a => h.trans (State.store_error (State.memWrite_misaligned a)))
    fun _ a l => h.trans (State.store_error (State.memWrite_error a l))

theorem storeUndef_raises (h : exec i s = s.storeUndef va n) : AccessRaises i s va n .store :=
  accessRaises_of (fun a => h.trans (State.storeUndef_error (State.memWriteUndef_misaligned a)))
    fun _ a l => h.trans (State.storeUndef_error (State.memWriteUndef_error a l))

theorem storeFprDouble_raises {site : DrawSite} {r : RegNum}
    (h : exec i s = s.storeFprDouble site r va) : AccessRaises i s va 8 .store := by
  unfold State.storeFprDouble at h
  split at h
  · exact store_raises h
  · exact storeUndef_raises h

/-- The store an indexed form makes after a region violation raises as the ordinary one does. -/
theorem indexedStore_raises {base : RegNum} {stores : Result}
    (h : exec i s = s.indexedStore va base n stores)
    (inner : exec i s = stores → AccessRaises i s va n .store) : AccessRaises i s va n .store := by
  unfold State.indexedStore at h
  split at h
  · exact inner h
  · exact storeUndef_raises h

/-! ### Guards -/

theorem lowZero_iff (offset : BitVec 16) (k : Nat) :
    lowZero offset k = true ↔ offset.toNat % 2 ^ k = 0 := by
  rw [lowZero, beq_iff_eq, ← BitVec.toNat_inj, BitVec.extractLsb'_toNat, Nat.shiftRight_zero]
  rfl

theorem lowZero_eq_false {offset : BitVec 16} (h : offset.toNat % 2 ^ k ≠ 0) :
    lowZero offset k = false := by
  rwa [← Bool.not_eq_true, lowZero_iff]

theorem offsetCheck_passes {offset : BitVec 16} {r : Result} (h : offset.toNat % 2 ^ k = 0) :
    offsetCheck offset k r = r :=
  if_pos ((lowZero_iff offset k).mpr h)

theorem offsetCheck_refuses {offset : BitVec 16} {r : Result} (h : offset.toNat % 2 ^ k ≠ 0) :
    offsetCheck offset k r = .refused .offsetField := by
  rw [offsetCheck, lowZero_eq_false h]
  rfl

theorem State.withCu1_usable {r : Result} (h : s.cfg.cu1 = true) : s.withCu1 r = r := if_pos h

/-! ### The meanings of the loads no guard stands before (comparing `exec` with the load itself, Lean would
unfold the load) -/

section

variable (rt base : RegNum) (offset : BitVec 16) (s : State)

theorem exec_lb : exec (.lb rt offset base) s = execLb rt offset base s := rfl
theorem exec_lbu : exec (.lbu rt offset base) s = execLbu rt offset base s := rfl
theorem exec_lh : exec (.lh rt offset base) s = execLh rt offset base s := rfl
theorem exec_lhu : exec (.lhu rt offset base) s = execLhu rt offset base s := rfl

end

/-! ### Aligned accesses -/

/-- The offset restriction of the word and doubleword forms of the CPU (20_memory.md R95). -/
theorem offset_refused {rt base : RegNum} {offset : BitVec 16}
    (h : offset.toNat % 4 ≠ 0 ∧ i ∈ [.lw rt offset base, .lwu rt offset base, .sw rt offset base,
          .ll rt offset base, .sc rt offset base] ∨
        offset.toNat % 8 ≠ 0 ∧ i ∈ [.ld rt offset base, .sd rt offset base, .lld rt offset base,
          .scd rt offset base]) :
    i.WellFormed = false ∧ exec i s = .refused .offsetField := by
  rcases h with ⟨low, word⟩ | ⟨low, double⟩
  · simp only [List.mem_cons, List.not_mem_nil, or_false] at word
    rcases word with rfl | rfl | rfl | rfl | rfl <;>
      exact ⟨lowZero_eq_false (k := 2) low, offsetCheck_refuses (k := 2) low⟩
  · simp only [List.mem_cons, List.not_mem_nil, or_false] at double
    rcases double with rfl | rfl | rfl | rfl <;>
      exact ⟨lowZero_eq_false (k := 3) low, offsetCheck_refuses (k := 3) low⟩

/-- Settles O29, instruction by instruction through the shared operation each one runs. -/
theorem alignedAccessExceptions : Obligations.AlignedAccessExceptions := by
  refine ⟨?_, ?_⟩
  · rintro s rt base offset _ rfl
    refine ⟨load_raises (exec_lb ..), load_raises (exec_lbu ..), load_raises (exec_lh ..),
      load_raises (exec_lhu ..), store_raises rfl, store_raises rfl, fun low => ?_, fun low => ?_,
      fun i => offset_refused⟩
    · have passes {r : Result} : offsetCheck offset 2 r = r := offsetCheck_passes low
      exact ⟨load_raises passes, load_raises passes, loadLinked_raises passes, store_raises passes⟩
    · have passes {r : Result} : offsetCheck offset 3 r = r := offsetCheck_passes low
      exact ⟨load_raises passes, loadLinked_raises passes, store_raises passes⟩
  · intro s r index base offset va cu1
    have usable {k : Result} : s.withCu1 k = k := State.withCu1_usable cu1
    refine ⟨?_, ?_⟩
    · rintro rfl
      refine ⟨fun low => ?_, fun low => ?_, fun low => ?_, fun low => ?_⟩
      · have passes {r : Result} : offsetCheck offset 2 r = r := offsetCheck_passes low
        exact ⟨load_raises (usable.trans passes), store_raises (usable.trans passes)⟩
      · have passes {r : Result} : offsetCheck offset 3 r = r := offsetCheck_passes low
        exact ⟨load_raises (usable.trans passes), storeFprDouble_raises (usable.trans passes)⟩
      · have refuses {r : Result} : offsetCheck offset 2 r = .refused .offsetField :=
          offsetCheck_refuses low
        exact ⟨usable.trans refuses, usable.trans refuses⟩
      · have refuses {r : Result} : offsetCheck offset 3 r = .refused .offsetField :=
          offsetCheck_refuses low
        exact ⟨usable.trans refuses, usable.trans refuses⟩
    · rintro rfl
      exact ⟨load_raises usable, indexedStore_raises usable store_raises, load_raises usable,
        indexedStore_raises usable storeFprDouble_raises⟩

/-! ### Unaligned accesses -/

theorem loadPart_raises {f : State → Word → State} (h : exec i s = s.loadPart va first k f)
    (l : s.locate va first k .load = .error e) : Raises i s e := by
  refine raises_of_exec (h.trans ?_)
  simp only [State.loadPart, State.readBytes_error l]

theorem storePart_raises {v : Word} (h : exec i s = s.storePart va first k v)
    (l : s.locate va first k .store = .error e) : Raises i s e := by
  have unwritten := State.writeBytes_error (bs := bytesOfValue s.bigEndianCpu v k)
    (by rwa [bytesOfValue_length])
  refine raises_of_exec (h.trans ?_)
  simp only [State.storePart, unwritten]

/-- The number of bytes a left form moves, by the place of the address in its object
(40_cpu_load_store.md R213). -/
theorem State.byteIndex_add_one (s : State) (va : Word) (pos : 0 < n) :
    s.byteIndex va n + 1 = if s.bigEndianCpu then n - va.toNat % n else va.toNat % n + 1 := by
  have place := Nat.mod_lt va.toNat pos
  unfold State.byteIndex
  split
  · omega
  · rfl

/-- The number of bytes a right form moves (40_cpu_load_store.md R213). -/
theorem State.sub_byteIndex (s : State) (va : Word) (pos : 0 < n) :
    n - s.byteIndex va n = if s.bigEndianCpu then va.toNat % n + 1 else n - va.toNat % n := by
  have place := Nat.mod_lt va.toNat pos
  unfold State.byteIndex
  split
  · omega
  · rfl

/-- Settles O32: the left and the right forms of a word, then of a doubleword. (`exec` is unfolded where
Lean would try to unfold the load instead.) -/
theorem unalignedAccessExceptions : Obligations.UnalignedAccessExceptions := by
  rintro s rt base offset _ p k e rfl
  constructor
  · rintro rfl
    rw [← State.byteIndex_add_one s _ (by decide), ← State.sub_byteIndex s _ (by decide)]
    constructor
    · rintro rfl
      exact ⟨loadPart_raises (by unfold exec execLwl; exact rfl), storePart_raises rfl⟩
    · rintro rfl
      exact ⟨loadPart_raises (by unfold exec execLwr; exact rfl), storePart_raises rfl⟩
  · rintro rfl
    rw [← State.byteIndex_add_one s _ (by decide), ← State.sub_byteIndex s _ (by decide)]
    constructor
    · rintro rfl
      exact ⟨loadPart_raises (by unfold exec execLdl; exact rfl), storePart_raises rfl⟩
    · rintro rfl
      exact ⟨loadPart_raises (by unfold exec execLdr; exact rfl), storePart_raises rfl⟩

end Sys2Proof.Machine
end

section
/-! SUPPORT. Words and their fields (30_encoding.md R131 to R134): a word has a format's form exactly when its
fields are those the form was built of, and the must-be-zero bits of a decoder are whole fields. -/

namespace Sys2Proof

variable {w : BitVec 32}

/-! ### Adjacent bits -/

/-- A bit string that continues a field upwards makes one field with it. -/
theorem append_field {n m : Nat} {v : BitVec n} (lo len : Nat) {x : BitVec m}
    (upper : x = v.extractLsb' (lo + len) m) :
    x ++ v.extractLsb' lo len = v.extractLsb' lo (m + len) := by
  rw [upper, BitVec.extractLsb'_append_extractLsb'_eq_extractLsb' rfl]

/-- Two bit strings of the same shape agree when both parts do. -/
theorem append_eq_append_iff {m n : Nat} {a c : BitVec m} {b d : BitVec n} :
    a ++ b = c ++ d ↔ a = c ∧ b = d := by
  constructor
  · intro same
    have high := congrArg (BitVec.extractLsb' n m) same
    have low := congrArg (BitVec.extractLsb' 0 n) same
    rw [BitVec.extractLsb'_append_eq_left, BitVec.extractLsb'_append_eq_left] at high
    rw [BitVec.extractLsb'_append_eq_right, BitVec.extractLsb'_append_eq_right] at low
    exact ⟨high, low⟩
  · rintro ⟨rfl, rfl⟩
    rfl

/-! ### A word is the form of its fields -/

section
variable {op fn : BitVec 6} {a b c d : BitVec 5}

theorem iForm_eq_iff {imm : BitVec 16} :
    iForm op a b imm = w ↔ opF w = op ∧ rsF w = a ∧ rtF w = b ∧ immF w = imm := by
  have whole : iForm (opF w) (rsF w) (rtF w) (immF w) = w :=
    (append_field 0 16 <| append_field 16 5 <| append_field 21 5 rfl).trans BitVec.extractLsb'_eq_self
  constructor
  · rintro rfl
    simp
  · rintro ⟨rfl, rfl, rfl, rfl⟩
    exact whole

theorem rForm_eq_iff :
    rForm op a b c d fn = w ↔
      opF w = op ∧ rsF w = a ∧ rtF w = b ∧ rdF w = c ∧ saF w = d ∧ fnF w = fn := by
  have whole : rForm (opF w) (rsF w) (rtF w) (rdF w) (saF w) (fnF w) = w :=
    (append_field 0 6 <| append_field 6 5 <| append_field 11 5 <| append_field 16 5 <|
      append_field 21 5 rfl).trans BitVec.extractLsb'_eq_self
  constructor
  · rintro rfl
    simp
  · rintro ⟨rfl, rfl, rfl, rfl, rfl, rfl⟩
    exact whole

theorem jForm_eq_iff {target : BitVec 26} :
    jForm op target = w ↔ opF w = op ∧ indexF w = target := by
  have whole : jForm (opF w) (indexF w) = w := (append_field 0 26 rfl).trans BitVec.extractLsb'_eq_self
  constructor
  · rintro rfl
    simp
  · rintro ⟨rfl, rfl⟩
    exact whole

theorem cForm_eq_iff {code : BitVec 20} :
    cForm op code fn = w ↔ opF w = op ∧ code20F w = code ∧ fnF w = fn := by
  have whole : cForm (opF w) (code20F w) (fnF w) = w :=
    (append_field 0 6 <| append_field 6 20 rfl).trans BitVec.extractLsb'_eq_self
  constructor
  · rintro rfl
    simp
  · rintro ⟨rfl, rfl, rfl⟩
    exact whole

theorem tForm_eq_iff {code : BitVec 10} :
    tForm op a b code fn = w ↔
      opF w = op ∧ rsF w = a ∧ rtF w = b ∧ code10F w = code ∧ fnF w = fn := by
  have whole : tForm (opF w) (rsF w) (rtF w) (code10F w) (fnF w) = w :=
    (append_field 0 6 <| append_field 6 10 <| append_field 16 5 <| append_field 21 5 rfl).trans
      BitVec.extractLsb'_eq_self
  constructor
  · rintro rfl
    simp
  · rintro ⟨rfl, rfl, rfl, rfl, rfl⟩
    exact whole

end

/-! ### Must-be-zero bits (30_encoding.md R151) -/

theorem isZero_add (w : BitVec 32) (lo m n : Nat) :
    isZero w lo (m + n) = (isZero w (lo + n) m && isZero w lo n) := by
  have parts : w.extractLsb' (lo + n) m ++ w.extractLsb' lo n = w.extractLsb' lo (m + n) :=
    append_field lo n rfl
  have zeros : (0 : BitVec (m + n)) = 0#m ++ 0#n := BitVec.zero_append_zero.symm
  rw [Bool.eq_iff_iff, Bool.and_eq_true]
  simp only [isZero, beq_iff_eq, ← parts]
  rw [zeros]
  exact append_eq_append_iff

@[simp] theorem isZero_saF : isZero w 6 5 = (saF w == 0) := rfl
@[simp] theorem isZero_rdF : isZero w 11 5 = (rdF w == 0) := rfl
@[simp] theorem isZero_rtF : isZero w 16 5 = (rtF w == 0) := rfl
@[simp] theorem isZero_rsF : isZero w 21 5 = (rsF w == 0) := rfl

@[simp] theorem isZero_saF_fnF : isZero w 0 11 = (saF w == 0 && fnF w == 0) := isZero_add w 0 5 6

@[simp] theorem isZero_rdF_saF : isZero w 6 10 = (rdF w == 0 && saF w == 0) := isZero_add w 6 5 5

@[simp] theorem isZero_rsF_rtF : isZero w 16 10 = (rsF w == 0 && rtF w == 0) := isZero_add w 16 5 5

@[simp] theorem isZero_rtF_rdF_saF :
    isZero w 6 15 = (rtF w == 0 && (rdF w == 0 && saF w == 0)) := by
  rw [isZero_add w 6 5 10, isZero_rtF, isZero_rdF_saF]

@[simp] theorem isZero_rsF_rtF_rdF :
    isZero w 11 15 = ((rsF w == 0 && rtF w == 0) && rdF w == 0) := by
  rw [isZero_add w 11 10 5, isZero_rsF_rtF, isZero_rdF]

/-! ### Condition codes: fields within the rt and sa fields (30_encoding.md R134) -/

theorem rtF_eq_append_iff {cc : BitVec 3} {ndTf : BitVec 2} :
    rtF w = cc ++ ndTf ↔ ccHiF w = cc ∧ ndTfF w = ndTf := by
  have parts : ccHiF w ++ ndTfF w = rtF w := append_field 16 2 rfl
  rw [← parts, append_eq_append_iff]

theorem saF_eq_append_iff {cc : BitVec 3} :
    saF w = cc ++ 0#2 ↔ ccLoF w = cc ∧ isZero w 6 2 = true := by
  have parts : ccLoF w ++ w.extractLsb' 6 2 = saF w := append_field 6 2 rfl
  rw [← parts, append_eq_append_iff, isZero, beq_iff_eq]
  rfl

/-- The bit above tf is zero, and tf says which of the two conditional moves the word is. -/
theorem ndTfF_eq_zero_iff : ndTfF w = 0#2 ↔ isZero w 17 1 = true ∧ tfF w = 0 := by
  have parts : w.extractLsb' 17 1 ++ tfF w = ndTfF w := append_field 16 1 rfl
  rw [← parts, isZero, beq_iff_eq]
  exact append_eq_append_iff (c := 0#1) (d := 0#1)

theorem ndTfF_eq_one_iff : ndTfF w = 1#2 ↔ isZero w 17 1 = true ∧ tfF w ≠ 0 := by
  have parts : w.extractLsb' 17 1 ++ tfF w = ndTfF w := append_field 16 1 rfl
  have set : tfF w ≠ 0 ↔ tfF w = 1#1 := by generalize tfF w = tf; revert tf; decide
  rw [← parts, set, isZero, beq_iff_eq]
  exact append_eq_append_iff (c := 0#1) (d := 1#1)

section
variable {op fn : BitVec 6} {a b c d : BitVec 5} {cc : BitVec 3} {ndTf : BitVec 2} {imm : BitVec 16}

@[simp] theorem ccHiF_iForm : ccHiF (iForm op a (cc ++ ndTf) imm) = cc :=
  (rtF_eq_append_iff.mp (rtF_iForm ..)).1

@[simp] theorem ndTfF_iForm : ndTfF (iForm op a (cc ++ ndTf) imm) = ndTf :=
  (rtF_eq_append_iff.mp (rtF_iForm ..)).2

@[simp] theorem ccHiF_rForm : ccHiF (rForm op a (cc ++ ndTf) c d fn) = cc :=
  (rtF_eq_append_iff.mp (rtF_rForm ..)).1

@[simp] theorem ndTfF_rForm : ndTfF (rForm op a (cc ++ ndTf) c d fn) = ndTf :=
  (rtF_eq_append_iff.mp (rtF_rForm ..)).2

@[simp] theorem ccLoF_rForm : ccLoF (rForm op a b c (cc ++ 0#2) fn) = cc :=
  (saF_eq_append_iff.mp (saF_rForm ..)).1

@[simp] theorem isZero_ccLo_rForm : isZero (rForm op a b c (cc ++ 0#2) fn) 6 2 = true :=
  (saF_eq_append_iff.mp (saF_rForm ..)).2

end

/-! ### The bytes of a word (20_memory.md R84) -/

theorem bytesOfWord_length (big : Bool) (w : BitVec 32) : (bytesOfWord big w).length = 4 := by
  cases big <;> rfl

theorem decodeBytes_bytesOfWord (big : Bool) (w : BitVec 32) :
    decodeBytes big (bytesOfWord big w) = decode w := by
  have whole : w.extractLsb' 24 8 ++ w.extractLsb' 16 8 ++ w.extractLsb' 8 8 ++ w.extractLsb' 0 8 = w :=
    (append_field 0 8 <| append_field 8 8 <| append_field 16 8 rfl).trans BitVec.extractLsb'_eq_self
  cases big
  · exact congrArg decode whole
  · exact congrArg decode whole

/-! ### The class of a word (30_encoding.md R137 to R145)

`delta` opens the decoder without deriving its equations, which every lemma here would wait for. -/

theorem decode_special (op : opF w = 0x00#6) : decode w = decodeSpecial w := by
  delta decode
  rw [op]
  rfl

theorem decode_regimm (op : opF w = 0x01#6) : decode w = decodeRegimm w := by
  delta decode
  rw [op]
  rfl

theorem decode_cop1x (op : opF w = 0x13#6) : decode w = decodeCop1x w := by
  delta decode
  rw [op]
  rfl

theorem decode_cop1 (op : opF w = 0x11#6) : decode w = decodeCop1 w := by
  delta decode
  rw [op]
  rfl

theorem decode_bc (op : opF w = 0x11#6) (fmt : rsF w = 0x08#5) : decode w = decodeBc w := by
  rw [decode_cop1 op]
  delta decodeCop1
  rw [fmt]
  rfl

theorem decode_fmtS (op : opF w = 0x11#6) (fmt : rsF w = 0x10#5) : decode w = decodeFmtS w := by
  rw [decode_cop1 op]
  delta decodeCop1
  rw [fmt]
  rfl

theorem decode_fmtD (op : opF w = 0x11#6) (fmt : rsF w = 0x11#5) : decode w = decodeFmtD w := by
  rw [decode_cop1 op]
  delta decodeCop1
  rw [fmt]
  rfl

theorem decode_fmtW (op : opF w = 0x11#6) (fmt : rsF w = 0x14#5) : decode w = decodeFmtW w := by
  rw [decode_cop1 op]
  delta decodeCop1
  rw [fmt]
  rfl

theorem decode_fmtL (op : opF w = 0x11#6) (fmt : rsF w = 0x15#5) : decode w = decodeFmtL w := by
  rw [decode_cop1 op]
  delta decodeCop1
  rw [fmt]
  rfl

end Sys2Proof
end

section
/-! PROOFS. Decoding the encoding of an instruction: the opcode of its format selects the class, the class's
own field its row, and the row reads the operands back from the fields they were put in. -/

namespace Sys2Proof

variable {e : DecodeError} {i j : Instr}

theorem ok_of (same : i = j) : (.ok i : Except DecodeError Instr) = .ok j := congrArg _ same

theorem zeroed_of {zero : Bool} (holds : zero = true) (same : i = j) : zeroed zero e i = .ok j := by
  rw [holds, same]
  rfl

/-- A row of a conditional move whose tf bit is 0. -/
theorem tf_clear_of {w : BitVec 32} {zero : Bool} {moveT : Except DecodeError Instr}
    (ndTf : ndTfF w = 0#2) (holds : isZero w 17 1 = true → zero = true) (same : i = j) :
    (if tfF w = 0 then zeroed zero e i else moveT) = .ok j := by
  obtain ⟨nd, tf⟩ := ndTfF_eq_zero_iff.mp ndTf
  rw [if_pos tf, zeroed_of (holds nd) same]

/-- A row of a conditional move whose tf bit is 1. -/
theorem tf_set_of {w : BitVec 32} {zero : Bool} {moveF : Except DecodeError Instr}
    (ndTf : ndTfF w = 1#2) (holds : isZero w 17 1 = true → zero = true) (same : i = j) :
    (if tfF w = 0 then moveF else zeroed zero e i) = .ok j := by
  obtain ⟨nd, tf⟩ := ndTfF_eq_one_iff.mp ndTf
  rw [if_neg tf, zeroed_of (holds nd) same]

/-- One case for each class and, within a class, for each shape of its rows: whether there are bits that
must be zero, and where the operands stand. -/
theorem decode_encode (i : Instr) : decode (encode i) = .ok i := by
  cases i <;> simp only [encode.eq_def]
  case addi | addiu | slti | sltiu | andi | ori | xori | daddi | daddiu | beq | bne | beql | bnel
      | lb | lbu | lh | lhu | lw | lwu | ld | sb | sh | sw | sd | lwl | lwr | swl | swr | ldl | ldr | sdl | sdr
      | ll | lld | sc | scd | lwc1 | ldc1 | swc1 | sdc1 | lwc2 | ldc2 | swc2 | sdc2 | pref =>
    rw [decode, opF_iForm]
    exact ok_of (by simp)
  case lui | blez | bgtz | blezl | bgtzl =>
    rw [decode, opF_iForm]
    exact zeroed_of (by simp) (by simp)
  case j | jal | cop0 | cop2 =>
    rw [decode, opF_jForm]
    exact ok_of (by simp)
  case add | addu | sub | subu | and | or | xor | nor | slt | sltu | dadd | daddu | dsub | dsubu | movz | movn
      | sll | srl | sra | dsll | dsrl | dsra | dsll32 | dsrl32 | dsra32 | sllv | srlv | srav | dsllv | dsrlv
      | dsrav | mult | multu | div | divu | dmult | dmultu | ddiv | ddivu | mfhi | mthi | mflo | mtlo
      | jr | jalr | sync =>
    rw [decode_special (opF_rForm ..), decodeSpecial, fnF_rForm]
    exact zeroed_of (by simp) (by simp)
  case movf =>
    rw [decode_special (opF_rForm ..), decodeSpecial, fnF_rForm]
    exact tf_clear_of ndTfF_rForm (by simp) (by simp)
  case movt =>
    rw [decode_special (opF_rForm ..), decodeSpecial, fnF_rForm]
    exact tf_set_of ndTfF_rForm (by simp) (by simp)
  case syscall | brk =>
    rw [decode_special (opF_cForm ..), decodeSpecial, fnF_cForm]
    exact ok_of (by simp)
  case tge | tgeu | tlt | tltu | teq | tne =>
    rw [decode_special (opF_tForm ..), decodeSpecial, fnF_tForm]
    exact ok_of (by simp)
  case bltz | bgez | bltzl | bgezl | bltzal | bgezal | bltzall | bgezall | tgei | tgeiu | tlti | tltiu | teqi
      | tnei =>
    rw [decode_regimm (opF_iForm ..), decodeRegimm, rtF_iForm]
    exact ok_of (by simp)
  case mfc1 | dmfc1 | cfc1 | mtc1 | dmtc1 | ctc1 =>
    rw [decode_cop1 (opF_rForm ..), decodeCop1, rsF_rForm]
    exact zeroed_of (by simp) (by simp)
  case bc1f | bc1t | bc1fl | bc1tl =>
    rw [decode_bc (opF_iForm ..) (rsF_iForm ..), decodeBc, ndTfF_iForm]
    exact ok_of (by simp)
  case addS | subS | mulS | divS | movzS | movnS =>
    rw [decode_fmtS (opF_rForm ..) (rsF_rForm ..), decodeFmtS, fnF_rForm]
    exact ok_of (by simp)
  case sqrtS | absS | movS | negS | roundLS | truncLS | ceilLS | floorLS | roundWS | truncWS | ceilWS | floorWS
      | recipS | rsqrtS | cvtDS | cvtWS | cvtLS | cFS | cUnS | cEqS | cUeqS | cOltS | cUltS | cOleS | cUleS
      | cSfS | cNgleS | cSeqS | cNglS | cLtS | cNgeS | cLeS | cNgtS =>
    rw [decode_fmtS (opF_rForm ..) (rsF_rForm ..), decodeFmtS, fnF_rForm]
    exact zeroed_of (by simp) (by simp)
  case movfS =>
    rw [decode_fmtS (opF_rForm ..) (rsF_rForm ..), decodeFmtS, fnF_rForm]
    exact tf_clear_of ndTfF_rForm id (by simp)
  case movtS =>
    rw [decode_fmtS (opF_rForm ..) (rsF_rForm ..), decodeFmtS, fnF_rForm]
    exact tf_set_of ndTfF_rForm id (by simp)
  case addD | subD | mulD | divD | movzD | movnD =>
    rw [decode_fmtD (opF_rForm ..) (rsF_rForm ..), decodeFmtD, fnF_rForm]
    exact ok_of (by simp)
  case sqrtD | absD | movD | negD | roundLD | truncLD | ceilLD | floorLD | roundWD | truncWD | ceilWD | floorWD
      | recipD | rsqrtD | cvtSD | cvtWD | cvtLD | cFD | cUnD | cEqD | cUeqD | cOltD | cUltD | cOleD | cUleD
      | cSfD | cNgleD | cSeqD | cNglD | cLtD | cNgeD | cLeD | cNgtD =>
    rw [decode_fmtD (opF_rForm ..) (rsF_rForm ..), decodeFmtD, fnF_rForm]
    exact zeroed_of (by simp) (by simp)
  case movfD =>
    rw [decode_fmtD (opF_rForm ..) (rsF_rForm ..), decodeFmtD, fnF_rForm]
    exact tf_clear_of ndTfF_rForm id (by simp)
  case movtD =>
    rw [decode_fmtD (opF_rForm ..) (rsF_rForm ..), decodeFmtD, fnF_rForm]
    exact tf_set_of ndTfF_rForm id (by simp)
  case cvtSW | cvtDW =>
    rw [decode_fmtW (opF_rForm ..) (rsF_rForm ..), decodeFmtW, fnF_rForm]
    exact zeroed_of (by simp) (by simp)
  case cvtSL | cvtDL =>
    rw [decode_fmtL (opF_rForm ..) (rsF_rForm ..), decodeFmtL, fnF_rForm]
    exact zeroed_of (by simp) (by simp)
  case lwxc1 | ldxc1 | swxc1 | sdxc1 | prefx =>
    rw [decode_cop1x (opF_rForm ..), decodeCop1x, fnF_rForm]
    exact zeroed_of (by simp) (by simp)
  case maddS | maddD | msubS | msubD | nmaddS | nmaddD | nmsubS | nmsubD =>
    rw [decode_cop1x (opF_rForm ..), decodeCop1x, fnF_rForm]
    exact ok_of (by simp)

/-- Settles O7: class by class for the word, and its bytes are the word in either order. -/
theorem decodeEncode : Obligations.DecodeEncode := by
  intro i
  refine ⟨decode_encode i, fun big => ⟨?_, bytesOfWord_length big _⟩⟩
  rw [encodeBytes, decodeBytes_bytesOfWord, decode_encode]

end Sys2Proof
end

section
/-! PROOFS. Encoding what a word decodes to: a row is reached only when the fields that select it have the
row's values, an instruction is delivered only when the must-be-zero fields are zero, and the operands are
the fields that are left; so the word is the form the instruction is encoded in. -/

namespace Sys2Proof

variable {w : BitVec 32} {e : DecodeError} {i : Instr} {r r' : Except DecodeError Instr}

/-! ### What a decoder may answer -/

/-- If a decoder answers an instruction on the word, the word is its encoding. -/
def EncodesBack (w : BitVec 32) (r : Except DecodeError Instr) : Prop := ∀ i, r = .ok i → encode i = w

@[simp] theorem encodesBack_ok : EncodesBack w (.ok i) ↔ encode i = w := by
  simp [EncodesBack]

@[simp] theorem encodesBack_error : EncodesBack w (.error e) := nofun

@[simp] theorem encodesBack_zeroed {zero : Bool} :
    EncodesBack w (zeroed zero e i) ↔ (zero = true → encode i = w) := by
  cases zero
  · simp [zeroed, encodesBack_error]
  · simp [zeroed, encodesBack_ok]

@[simp] theorem encodesBack_ite {p : Prop} [Decidable p] :
    EncodesBack w (if p then r else r') ↔ (p → EncodesBack w r) ∧ (¬p → EncodesBack w r') := by
  split
  · next holds => simp [holds]
  · next fails => simp [fails]

/-! ### The decoders: every row is the row of the fields it reads -/

theorem decodeSpecial_encodesBack (op : opF w = 0x00#6) : EncodesBack w (decodeSpecial w) := by
  unfold decodeSpecial
  split <;> simp +contextual [encode.eq_def, rForm_eq_iff, cForm_eq_iff, tForm_eq_iff, rtF_eq_append_iff,
    ndTfF_eq_zero_iff, ndTfF_eq_one_iff, *]

theorem decodeRegimm_encodesBack (op : opF w = 0x01#6) : EncodesBack w (decodeRegimm w) := by
  unfold decodeRegimm
  split <;> simp [encode.eq_def, iForm_eq_iff, *]

theorem decodeBc_encodesBack (op : opF w = 0x11#6) (fmt : rsF w = 0x08#5) :
    EncodesBack w (decodeBc w) := by
  unfold decodeBc
  split <;> simp [encode.eq_def, iForm_eq_iff, rtF_eq_append_iff, *]

theorem decodeFmtS_encodesBack (op : opF w = 0x11#6) (fmt : rsF w = 0x10#5) :
    EncodesBack w (decodeFmtS w) := by
  unfold decodeFmtS
  split <;> simp +contextual [encode.eq_def, rForm_eq_iff, rtF_eq_append_iff, saF_eq_append_iff,
    ndTfF_eq_zero_iff, ndTfF_eq_one_iff, *]

theorem decodeFmtD_encodesBack (op : opF w = 0x11#6) (fmt : rsF w = 0x11#5) :
    EncodesBack w (decodeFmtD w) := by
  unfold decodeFmtD
  split <;> simp +contextual [encode.eq_def, rForm_eq_iff, rtF_eq_append_iff, saF_eq_append_iff,
    ndTfF_eq_zero_iff, ndTfF_eq_one_iff, *]

theorem decodeFmtW_encodesBack (op : opF w = 0x11#6) (fmt : rsF w = 0x14#5) :
    EncodesBack w (decodeFmtW w) := by
  unfold decodeFmtW
  split <;> simp [encode.eq_def, rForm_eq_iff, *]

theorem decodeFmtL_encodesBack (op : opF w = 0x11#6) (fmt : rsF w = 0x15#5) :
    EncodesBack w (decodeFmtL w) := by
  unfold decodeFmtL
  split <;> simp [encode.eq_def, rForm_eq_iff, *]

theorem decodeCop1_encodesBack (op : opF w = 0x11#6) : EncodesBack w (decodeCop1 w) := by
  unfold decodeCop1
  split <;> simp +contextual [encode.eq_def, rForm_eq_iff, decodeBc_encodesBack, decodeFmtS_encodesBack,
    decodeFmtD_encodesBack, decodeFmtW_encodesBack, decodeFmtL_encodesBack, *]

theorem decodeCop1x_encodesBack (op : opF w = 0x13#6) : EncodesBack w (decodeCop1x w) := by
  unfold decodeCop1x
  split <;> simp +contextual [encode.eq_def, rForm_eq_iff, *]

theorem decode_encodesBack (w : BitVec 32) : EncodesBack w (decode w) := by
  unfold decode
  split <;> simp +contextual [encode.eq_def, iForm_eq_iff, jForm_eq_iff, decodeSpecial_encodesBack,
    decodeRegimm_encodesBack, decodeCop1_encodesBack, decodeCop1x_encodesBack, *]

/-- Settles O8, decoder by decoder from the class's own map up to the primary one. -/
theorem encodeDecode : Obligations.EncodeDecode := decode_encodesBack

end Sys2Proof
end

section
/-! PROOFS. Words that are no instruction (30_encoding.md R150, R151, 43_cpu_misc.md R402, log 23): the step
reaches them, and each class of them raises its exception. -/

namespace Sys2Proof.Machine

open Sys2Proof

variable {s : State} {as : List Nat} {e : DecodeError} {bs : List Byte}

/-! ### Fetching -/

theorem State.fetch_of_located (aligned_pc : s.pc.toNat % 4 = 0)
    (located : s.locate s.pc s.pc 4 .fetch = .ok as) (unstored : ∀ a ∈ as, a ∉ s.stored) :
    s.fetch = .ok (as.map s.readByte) := by
  have clean : as.any s.stored.contains = false := by simpa using unstored
  simp [State.fetch, (aligned_iff s.pc 4).mpr aligned_pc, located, clean]

theorem step_of_bad_word (running : s.trap = none) (quiet : s.interrupted = false)
    (fetched : s.popInterrupt.fetch = .ok bs) (bad : decodeBytes s.bigEndianCpu bs = .error e) :
    step s = s.popInterrupt.badWord e := by
  simp [step, running, quiet, fetched, bad]

/-! ### The exception of each class -/

theorem State.withCu1_unusable {r : Result} (h : s.cfg.cu1 = false) :
    s.withCu1 r = .next (s.raise (.coprocessorUnusable 1)) := by
  rw [State.withCu1, h]
  rfl

/-- Outside coprocessor 1. -/
theorem State.badWord_cpu (cpu : e ∈ [.reserved, .zeroField, .length]) :
    s.badWord e = .next (s.raise .reservedInstruction) := by
  simp only [List.mem_cons, List.not_mem_nil, or_false] at cpu
  rcases cpu with rfl | rfl | rfl <;> rfl

theorem State.badWord_unusable (fpu : e ∉ [.reserved, .zeroField, .length]) (cu1 : s.cfg.cu1 = false) :
    s.badWord e = .next (s.raise (.coprocessorUnusable 1)) := by
  cases e
  case reserved | zeroField | length => exact absurd (by decide) fpu
  case movciZeroField | reservedFpu | fpuZeroField => exact State.withCu1_unusable cu1

theorem State.badWord_unimplemented (cu1 : s.cfg.cu1 = true)
    (param : s.cfg.reservedFpu = .unimplementedOperation) :
    s.badWord .reservedFpu =
      .next ({ s with fcsr := setCause s.fcsr condE }.raise .floatingPoint) := by
  rw [State.badWord, State.withCu1_usable cu1, param]
  rfl

theorem State.badWord_reserved (fpu : e ∉ [.reserved, .zeroField, .length]) (cu1 : s.cfg.cu1 = true)
    (param : ¬(e = .reservedFpu ∧ s.cfg.reservedFpu = .unimplementedOperation)) :
    s.badWord e = .next (s.raise .reservedInstruction) := by
  cases e
  case reserved | zeroField | length => exact absurd (by decide) fpu
  case movciZeroField | fpuZeroField => exact State.withCu1_usable cu1
  case reservedFpu =>
    rw [State.badWord, State.withCu1_usable cu1]
    cases answer : s.cfg.reservedFpu with
    | reservedInstruction => rfl
    | unimplementedOperation => exact absurd ⟨rfl, answer⟩ param

/-! ### The FCSR -/

/-- `setCause` writes the cause field, bits 17..12, and no other bit (10_state.md R46). -/
theorem fcsrTrapped_setCause (f : BitVec 32) (c : Conds) : FcsrTrapped f (setCause f c) c := by
  constructor
  · ext i hi
    simp only [fcsrCause, setCause]
    interval_cases i <;> simp
  · ext i hi
    simp only [setCause]
    interval_cases i <;> simp

/-! ### The statement -/

/-- Settles O6: the step hands the word to `badWord`, whose classes are those of the statement. -/
theorem reservedWordsRaise : Obligations.ReservedWordsRaise := by
  intro s as e running quiet aligned_pc located unstored bad
  have fetched : s.popInterrupt.fetch = .ok (as.map s.readByte) :=
    State.fetch_of_located (s := s.popInterrupt) aligned_pc located unstored
  rw [step_of_bad_word running quiet fetched bad]
  split
  · next cpu => exact ⟨_, State.badWord_cpu cpu, State.raise_trapped .., rfl⟩
  · next fpu =>
    split
    · next cu1 => exact ⟨_, State.badWord_unusable fpu cu1, State.raise_trapped .., rfl⟩
    · next cu1 =>
      have usable : s.cfg.cu1 = true := Bool.eq_true_of_not_eq_false cu1
      split
      · next param =>
        obtain ⟨rfl, unimplemented⟩ := param
        refine ⟨_, State.badWord_unimplemented usable unimplemented, ?_, fcsrTrapped_setCause ..⟩
        constructor <;> rfl
      · next param => exact ⟨_, State.badWord_reserved fpu usable param, State.raise_trapped .., rfl⟩

end Sys2Proof.Machine
end

section
/-! SUPPORT. How an instruction completes, for the statements about its effect: what each single update
leaves unchanged of the state, what a register and bytes of memory hold after a write, and the ending. -/

namespace Sys2Proof.Machine

open Sys2Proof

variable {i : Instr} {s t u : State} {w : Footprint} {post : State → Prop} {as : List Nat}
  {bs : List Byte} {v : Word} {n : Nat}

/-! ### What an update leaves unchanged -/

theorem Frame.refl (bytes : w.bytes = []) : Frame s s w where
  gpr _ _ := rfl
  hi _ := rfl
  lo _ := rfl
  fgr _ _ := rfl
  tags _ _ := rfl
  fcsr _ := rfl
  llBit _ := rfl
  llAddr _ := rfl
  mem _ _ := rfl
  stored a := by simp [bytes]
  undefMem _ _ := Iff.rfl
  cfg := rfl
  trap := rfl
  intPending := rfl

theorem Frame.setX (h : Frame s t w) {r : RegNum} (v : Word) (listed : r ∈ w.gprs) :
    Frame s (t.setX r v) w := by
  have others (q : RegNum) (hq : q ∉ w.gprs ∨ q = 0) :
      (t.setX r v).gpr[q.toNat] = s.gpr[q.toNat] := by
    have apart : q ≠ r ∨ q = 0 := hq.imp_left fun unlisted same => unlisted (same ▸ listed)
    exact (State.putX_gpr_of_ne _ apart).trans (h.gpr q hq)
  unfold State.setX State.putX at others ⊢
  split
  · exact h
  · next nonzero =>
    rw [if_neg nonzero] at others
    exact { h with gpr := others }

/-- The draw that an access leaves in LLbit, when it was 1 (40_cpu_load_store.md R226). -/
theorem Frame.disturbLink (h : Frame s t w) (recorded : t.llBit = true → w.llBit = true) :
    Frame s t.disturbLink w := by
  unfold State.disturbLink
  split
  · next set => exact { h with llBit := fun kept => by simp [recorded set] at kept }
  · exact h

theorem Frame.withLlBit (h : Frame s t w) (b : Bool) (llBit : w.llBit = true) :
    Frame s { t with llBit := b } w :=
  { h with llBit := fun kept => by simp [llBit] at kept }

theorem Frame.setLink (h : Frame s t w) (va : Word) (n : Nat) (llBit : w.llBit = true)
    (llAddr : w.llAddr = true) : Frame s (t.setLink va n) w := by
  unfold State.setLink
  split
  · exact { h with
      llBit := fun kept => by simp [llBit] at kept
      llAddr := fun kept => by simp [llAddr] at kept }
  · exact h

theorem Frame.writeCells (bytes : w.bytes = as) (same_length : as.length = bs.length) :
    Frame s (s.writeCells (as.zip bs)) w := by
  have addresses : (as.zip bs).map Prod.fst = as := List.map_fst_zip same_length.le
  constructor
  case mem => exact fun a ha => State.writeCells_read_other (by rwa [addresses, ← bytes])
  case stored => exact fun a => by rw [State.mem_writeCells_stored, addresses, bytes]
  case undefMem =>
    intro a ha
    rw [State.mem_writeCells_undefMem, addresses, ← bytes, and_iff_left ha]
  all_goals simp

/-! ### What is held after a write -/

theorem State.setX_holds (s : State) (r : RegNum) (v : Word) : (s.setX r v).Holds r v := by
  unfold State.Holds State.setX
  rw [State.cellX_putX]
  split
  · rfl
  · rw [if_pos rfl]

theorem State.Holds.of_gpr {r : RegNum} (h : t.Holds r v) (gpr : u.gpr = t.gpr) :
    u.Holds r v := by
  unfold State.Holds State.cellX at h ⊢
  rwa [gpr]

theorem State.Holds.x {r : RegNum} (h : t.Holds r v) (nonzero : r ≠ 0) (site : DrawSite) :
    t.x site r = v := by
  rw [State.x_eq_cellX, h, if_neg nonzero, Reg.read_of]

theorem State.HoldsBytes.of_mem {m : Nat} (h : t.HoldsBytes as m) (mem : u.mem = t.mem := by simp)
    (undefMem : u.undefMem = t.undefMem := by simp) (cfg : u.cfg = t.cfg := by simp) :
    u.HoldsBytes as m := by
  unfold State.HoldsBytes State.bigEndianCpu at h ⊢
  rwa [mem, undefMem, cfg]

/-- Bytes written to distinct addresses are what is read there. -/
theorem State.map_read_writeCells (canonical : s.mem.wf = true) (distinct : as.Nodup)
    (same_length : as.length = bs.length) :
    as.map (s.writeCells (as.zip bs)).mem.read = bs := by
  refine List.ext_getElem (by simpa using same_length) fun j hj hj' => ?_
  have cell : (as[j]'(by simpa using hj), bs[j]) ∈ as.zip bs := by
    rw [← List.getElem_zip (h := by simpa using ⟨by simpa using hj, hj'⟩)]
    exact List.getElem_mem _
  have distinct_cells : ((as.zip bs).map Prod.fst).Nodup := by
    rwa [List.map_fst_zip same_length.le]
  rw [List.getElem_map]
  exact State.writeCells_read_same canonical distinct_cells cell

/-- The bytes of a value, in the byte order of the program, hold its low part. -/
theorem State.writeCells_holdsBytes (canonical : s.mem.wf = true) (distinct : as.Nodup)
    (length : as.length = n) (short : n ≤ 8) (v : Word) :
    (s.writeCells (as.zip (bytesOfValue s.bigEndianCpu v n))).HoldsBytes as
      (v.toNat % 2 ^ (8 * n)) := by
  have same_length : as.length = (bytesOfValue s.bigEndianCpu v n).length := by
    rwa [bytesOfValue_length]
  constructor
  · intro a ha
    rw [State.mem_writeCells_undefMem, List.map_fst_zip same_length.le]
    exact fun undefined => undefined.2 ha
  · obtain ⟨-, -, -, round_trip⟩ := byteOrder
    have order : (s.writeCells (as.zip (bytesOfValue s.bigEndianCpu v n))).bigEndianCpu =
        s.bigEndianCpu := by simp [State.bigEndianCpu]
    rw [State.map_read_writeCells canonical distinct same_length, order, round_trip _ _ _ short]

/-! ### The ending -/

theorem Frame.complete (h : Frame s t w) : Frame s t.complete w := { h with }

/-- An instruction that makes its updates and ends in sequence. -/
theorem completes_of_exec (runs : exec i s = .next u.complete) (frame : Frame s u w)
    (effect : post u.complete) (npc : u.npc = s.npc := by simp) (hiRd : u.hiRd = s.hiRd := by simp)
    (loRd : u.loRd = s.loRd := by simp) : Completes i s w post :=
  ⟨_, runs, ⟨npc, congrArg (· + 4) npc, rfl⟩,
    ⟨congrArg ReadAge.older hiRd, congrArg ReadAge.older loRd⟩, frame.complete, effect⟩

end Sys2Proof.Machine
end

section
/-! PROOFS. The aligned loads and stores on an access that succeeds (40_cpu_load_store.md R201 to R212): the
access, what completing it leaves behind, and the value each width extends to. -/

namespace Sys2Proof.Machine

open Sys2Proof

variable {i : Instr} {s : State} {va first v : Word} {n k : Nat} {as : List Nat} {rt : RegNum}

/-! ### The accesses to memory -/

theorem State.readBytes_located (l : s.locate va first n .load = .ok as) :
    s.readBytes va first n = .ok (as.map s.readByte) := by
  simp only [State.readBytes, l]

theorem State.memRead_located (h : va.toNat % n = 0) (l : s.locate va va n .load = .ok as) :
    s.memRead va n = .ok (valueOfBytes s.bigEndianCpu (as.map s.readByte)) := by
  simp [State.memRead, (aligned_iff va n).mpr h, State.readBytes_located l]

theorem State.writeBytes_located {bs : List Byte} (l : s.locate va first bs.length .store = .ok as) :
    s.writeBytes va first bs = .ok (s.writeCells (as.zip bs)) := by
  simp only [State.writeBytes, l]

theorem State.memWrite_located (v : Word) (h : va.toNat % n = 0)
    (l : s.locate va va n .store = .ok as) :
    s.memWrite va n v = .ok (s.writeCells (as.zip (bytesOfValue s.bigEndianCpu v n))) := by
  rw [State.memWrite, if_pos ((aligned_iff va n).mpr h)]
  exact State.writeBytes_located (by rwa [bytesOfValue_length])

/-- The value of the bytes of an access is below the bound of its width. -/
theorem loaded_lt (l : s.locate va first n .load = .ok as) (short : n ≤ 8) :
    (valueOfBytes s.bigEndianCpu (as.map s.readByte)).toNat < 2 ^ (8 * n) := by
  have length : (as.map s.readByte).length = n := by rw [List.length_map, State.locate_length l]
  rw [← length]
  exact valueOfBytes_lt (by omega)

/-! ### The shared endings of the loads and of the stores -/

/-- A load of any kind, once the value for the register is found. -/
theorem load_completes (runs : exec i s = .next (s.disturbLink.setX rt v).complete) :
    Completes i s { gprs := [rt], llBit := s.llBit } fun t => t.Holds rt v := by
  have undisturbed : Frame s s { gprs := [rt], llBit := s.llBit } := .refl rfl
  exact completes_of_exec runs ((undisturbed.disturbLink id).setX v List.mem_cons_self)
    ((State.setX_holds s.disturbLink rt v).of_gpr rfl)

/-- A store of any kind, once its bytes are located. -/
theorem store_completes (inv : s.Inv) (wide : 8 ≤ s.cfg.psize) (short : n ≤ 8)
    (l : s.locate va first n .store = .ok as)
    (runs : exec i s = .next
      (s.writeCells (as.zip (bytesOfValue s.bigEndianCpu v n))).disturbLink.complete) :
    Completes i s { bytes := as, llBit := s.llBit } fun t =>
      t.HoldsBytes as (v.toNat % 2 ^ (8 * n)) := by
  have length := State.locate_length l
  have written : Frame s (s.writeCells (as.zip (bytesOfValue s.bigEndianCpu v n)))
      { bytes := as, llBit := s.llBit } := .writeCells rfl (by rwa [bytesOfValue_length])
  have held := State.writeCells_holdsBytes inv.mem (State.locate_nodup l short wide) length short v
  exact completes_of_exec runs (written.disturbLink (by simp)) held.of_mem

/-! ### The aligned forms -/

theorem load_loadsX {g : Word → Word} {P : Word → Word → Prop}
    (runs : exec i s = s.load va n fun t m => t.setX rt (g m)) (short : n ≤ 8)
    (value : ∀ m : Word, m.toNat < 2 ^ (8 * n) → P m (g m)) : LoadsX i s rt va n P := by
  intro as low l
  refine ⟨_, value _ (loaded_lt l short), load_completes (runs.trans ?_)⟩
  simp only [State.load, State.memRead_located low l]

theorem store_stores (inv : s.Inv) (wide : 8 ≤ s.cfg.psize) (short : n ≤ 8)
    (runs : exec i s = s.store va n v) : Stores i s va n v := by
  intro as low l
  refine store_completes inv wide short l (runs.trans ?_)
  simp only [State.store, State.finishStore, State.memWrite_located v low l]

/-! ### Sign and zero extension -/

theorem toInt_signExtend_setWidth {k : Nat} (m : Word) (h : k ≤ 64) :
    ((m.setWidth k).signExtend 64).toInt = (m.toNat : Int).bmod (2 ^ k) := by
  rw [BitVec.toInt_signExtend_of_le h, BitVec.toInt_setWidth]

theorem setWidth_setWidth_of_lt {k : Nat} (m : Word) (h : m.toNat < 2 ^ k) :
    (m.setWidth k).setWidth 64 = m := by
  refine BitVec.eq_of_toNat_eq ?_
  rw [BitVec.toNat_setWidth, BitVec.toNat_setWidth, Nat.mod_eq_of_lt h, Nat.mod_eq_of_lt m.isLt]

/-! ### The statements -/

/-- Settles O27, width by width. -/
theorem loads : Obligations.Loads := by
  rintro s rt base offset _ rfl
  refine ⟨fun a => State.readByte_of_not_mem,
    load_loadsX (exec_lb ..) (by decide) fun m _ => toInt_signExtend_setWidth m (by decide),
    load_loadsX (exec_lbu ..) (by decide) fun m small => setWidth_setWidth_of_lt m small,
    load_loadsX (exec_lh ..) (by decide) fun m _ => toInt_signExtend_setWidth m (by decide),
    load_loadsX (exec_lhu ..) (by decide) fun m small => setWidth_setWidth_of_lt m small,
    fun low => ?_, fun low => ?_⟩
  · have passes {r : Result} : offsetCheck offset 2 r = r := offsetCheck_passes low
    exact ⟨load_loadsX passes (by decide) fun m _ => toInt_signExtend_setWidth m (by decide),
      load_loadsX passes (by decide) fun m small => setWidth_setWidth_of_lt m small⟩
  · exact load_loadsX (offsetCheck_passes (k := 3) low) (by decide) fun m _ => rfl

/-- Settles O28, width by width. -/
theorem storesWrite : Obligations.StoresWrite := by
  rintro s rt base offset _ inv wide rfl
  refine ⟨store_stores inv wide (by decide) rfl, store_stores inv wide (by decide) rfl,
    fun low => ?_, fun low => ?_⟩
  · exact store_stores inv wide (by decide) (offsetCheck_passes (k := 2) low)
  · exact store_stores inv wide (by decide) (offsetCheck_passes (k := 3) low)

end Sys2Proof.Machine
end

section
/-! PROOFS. The unaligned loads and stores on an access that succeeds (40_cpu_load_store.md R213 to R221):
the part of an object that each form moves, as arithmetic, and the two forms that together move one. -/

namespace Sys2Proof.Machine

open Sys2Proof

variable {i : Instr} {s : State} {va first v m old : Word} {n k : Nat} {as : List Nat} {rt : RegNum}

/-! ### The shared operations -/

theorem loadPart_completes {g : Word → Word}
    (runs : exec i s = s.loadPart va first k fun t m => t.setX rt (g m))
    (l : s.locate va first k .load = .ok as) :
    Completes i s { gprs := [rt], llBit := s.llBit } fun t =>
      t.Holds rt (g (valueOfBytes s.bigEndianCpu (as.map s.readByte))) := by
  refine load_completes (runs.trans ?_)
  simp only [State.loadPart, State.readBytes_located l]

theorem storePart_completes {x : Nat} (inv : s.Inv) (wide : 8 ≤ s.cfg.psize) (short : k ≤ 8)
    (runs : exec i s = s.storePart va first k v) (l : s.locate va first k .store = .ok as)
    (value : v.toNat % 2 ^ (8 * k) = x) :
    Completes i s { bytes := as, llBit := s.llBit } fun t => t.HoldsBytes as x := by
  subst value
  have located : s.locate va first (bytesOfValue s.bigEndianCpu v k).length .store = .ok as := by
    rwa [bytesOfValue_length]
  refine store_completes inv wide short l (runs.trans ?_)
  simp only [State.storePart, State.writeBytes_located located]

/-! ### Parts of a word or doubleword -/

theorem toNat_and_lowMask (v : Word) (h : k ≤ 64) : (v &&& lowMask k).toNat = v.toNat % 2 ^ k := by
  have bound := Nat.pow_le_pow_right (n := 2) (by decide) h
  have mask : (lowMask k).toNat = 2 ^ k - 1 := by
    rw [lowMask, BitVec.toNat_ofNat, Nat.mod_eq_of_lt (by omega)]
  rw [BitVec.toNat_and, mask, Nat.and_two_pow_sub_one_eq_mod]

theorem getLsbD_lowMask (h : k ≤ 64) (j : Nat) : (lowMask k).getLsbD j = decide (j < k) := by
  rw [lowMask, BitVec.getLsbD_ofNat, Nat.testBit_two_pow_sub_one]
  by_cases low : j < k
  · simp only [low, low.trans_le h, decide_true, Bool.and_self]
  · simp [low]

theorem toNat_and_not_lowMask (v : Word) (h : k ≤ 64) :
    (v &&& ~~~lowMask k).toNat = v.toNat / 2 ^ k * 2 ^ k := by
  refine Nat.eq_of_testBit_eq fun j => ?_
  rw [BitVec.testBit_toNat, BitVec.getLsbD_and, BitVec.getLsbD_not, getLsbD_lowMask h,
    Nat.testBit_mul_two_pow, Nat.testBit_div_two_pow, BitVec.testBit_toNat]
  by_cases low : j < k
  · simp [low]
  · simpa [low, Nat.sub_add_cancel (not_lt.mp low), Nat.not_lt.mp low] using
      BitVec.lt_of_getLsbD (x := v) (i := j)

/-- What a left form leaves in the object (40_cpu_load_store.md R214, R218). -/
theorem toNat_mergeLeft {byte : Nat} (inside : byte < n) (size : n ≤ 8)
    (small : m.toNat < 2 ^ (8 * (byte + 1))) :
    (mergeLeft n byte m old).toNat =
      m.toNat * 2 ^ (8 * (n - 1 - byte)) + old.toNat % 2 ^ (8 * (n - 1 - byte)) := by
  have fits : m.toNat * 2 ^ (8 * (n - 1 - byte)) < 2 ^ 64 := by
    calc m.toNat * 2 ^ (8 * (n - 1 - byte))
        < 2 ^ (8 * (byte + 1)) * 2 ^ (8 * (n - 1 - byte)) := by gcongr
      _ = 2 ^ (8 * (byte + 1) + 8 * (n - 1 - byte)) := (pow_add ..).symm
      _ ≤ 2 ^ 64 := Nat.pow_le_pow_right (by decide) (by omega)
  have kept : old.toNat % 2 ^ (8 * (n - 1 - byte)) < 2 ^ (8 * (n - 1 - byte)) :=
    Nat.mod_lt _ (by positivity)
  rw [mergeLeft, BitVec.toNat_or, toNat_and_lowMask old (by omega), BitVec.toNat_shiftLeft,
    Nat.shiftLeft_eq, Nat.mod_eq_of_lt fits, mul_comm, ← Nat.two_pow_add_eq_or_of_lt kept]

/-- What a right form leaves in the object (40_cpu_load_store.md R215, R219). -/
theorem toNat_mergeRight {byte : Nat} (size : n ≤ 8) (small : m.toNat < 2 ^ (8 * (n - byte))) :
    (mergeRight n byte m old).toNat =
      m.toNat + old.toNat / 2 ^ (8 * (n - byte)) * 2 ^ (8 * (n - byte)) := by
  rw [mergeRight, BitVec.toNat_or, toNat_and_not_lowMask old (by omega), Nat.or_comm,
    mul_comm, ← Nat.two_pow_add_eq_or_of_lt small, add_comm]

/-! ### Words in a register -/

theorem toNat_wordResult_mod (x : BitVec 32) : (wordResult x).toNat % 2 ^ 32 = x.toNat := by
  have low_bits : (wordResult x).setWidth 32 = x := by
    ext j hj
    rw [BitVec.getElem_setWidth, wordResult, BitVec.getLsbD_signExtend, if_pos hj]
    simp [hj, hj.trans (by decide : 32 < 64)]
  rw [← BitVec.toNat_setWidth, low_bits]

theorem wordValue_wordResult (x : BitVec 32) : WordValue (wordResult x) := by
  rw [WordValue, wordResult, BitVec.toInt_signExtend_of_le (by decide)]
  exact ⟨BitVec.le_toInt x, BitVec.toInt_lt⟩

theorem toNat_high_append (old : Word) (x : BitVec 32) :
    (old.extractLsb' 32 32 ++ x).toNat = old.toNat / 2 ^ 32 * 2 ^ 32 + x.toNat := by
  have high : (old.extractLsb' 32 32).toNat = old.toNat / 2 ^ 32 := by
    rw [BitVec.extractLsb'_toNat, Nat.shiftRight_eq_div_pow]
    omega
  rw [BitVec.toNat_append, high, Nat.shiftLeft_eq, mul_comm, ← Nat.two_pow_add_eq_or_of_lt x.isLt]

/-- The register after LWR (40_cpu_load_store.md R215). -/
def lwrValue (upper : LwrUpper) (byte : Nat) (m old : Word) : Word :=
  let word := lowWord (mergeRight 4 byte m old)
  if byte = 0 then wordResult word
  else
    match upper with
    | .keep => old.extractLsb' 32 32 ++ word
    | .signExtend => wordResult word

/-- The low word that LWR leaves, cut to 32 bits before or after the merge. -/
theorem toNat_lowWord_mergeRight {byte : Nat} (inside : byte < 4)
    (small : m.toNat < 2 ^ (8 * (4 - byte))) :
    (lowWord (mergeRight 4 byte m old)).toNat =
      m.toNat + old.toNat % 2 ^ 32 / 2 ^ (8 * (4 - byte)) * 2 ^ (8 * (4 - byte)) := by
  rw [lowWord, BitVec.toNat_setWidth, toNat_mergeRight (by decide) small]
  interval_cases byte <;> simp only [Nat.reduceSub, Nat.reduceMul, Nat.reducePow] at small ⊢ <;> omega

theorem lwrValue_low {byte : Nat} (upper : LwrUpper) (inside : byte < 4)
    (small : m.toNat < 2 ^ (8 * (4 - byte))) :
    (lwrValue upper byte m old).toNat % 2 ^ 32 =
      m.toNat + old.toNat % 2 ^ 32 / 2 ^ (8 * (4 - byte)) * 2 ^ (8 * (4 - byte)) := by
  rw [← toNat_lowWord_mergeRight inside small]
  unfold lwrValue
  split
  · exact toNat_wordResult_mod _
  · cases upper with
    | keep =>
      rw [toNat_high_append, Nat.mul_add_mod_self_right]
      exact Nat.mod_eq_of_lt (BitVec.isLt _)
    | signExtend => exact toNat_wordResult_mod _

theorem lwrValue_high {byte : Nat} (upper : LwrUpper) :
    if 4 - byte < 4 ∧ upper = .keep then
      (lwrValue upper byte m old).toNat / 2 ^ 32 = old.toNat / 2 ^ 32
    else WordValue (lwrValue upper byte m old) := by
  unfold lwrValue
  by_cases whole : byte = 0
  · rw [if_pos whole, if_neg (by omega)]
    exact wordValue_wordResult _
  · rw [if_neg whole]
    cases upper with
    | keep =>
      rw [if_pos ⟨by omega, rfl⟩]
      show (old.extractLsb' 32 32 ++ lowWord (mergeRight 4 byte m old)).toNat / 2 ^ 32 = _
      rw [toNat_high_append]
      omega
    | signExtend =>
      rw [if_neg (by simp)]
      exact wordValue_wordResult _

/-- The bytes a left form stores: those from bit `low` of the register up (40_cpu_load_store.md R216,
R220). -/
theorem toNat_ushiftRight_mod (v : Word) (low width : Nat) :
    (v >>> low).toNat % 2 ^ width = v.toNat % 2 ^ (low + width) / 2 ^ low := by
  rw [BitVec.toNat_ushiftRight, Nat.shiftRight_eq_div_pow, pow_add, Nat.mod_mul_right_div_self]

/-! ### The unaligned forms -/

theorem State.byteIndex_lt (s : State) (va : Word) (pos : 0 < n) : s.byteIndex va n < n := by
  have place := Nat.mod_lt va.toNat pos
  unfold State.byteIndex
  split
  · omega
  · exact place

/-! The meanings of the loads, with the value each writes. (Comparing `exec` with the load itself, Lean would
unfold the load.) -/

section

variable (rt base : RegNum) (offset : BitVec 16) (s : State)

theorem exec_lwl : exec (.lwl rt offset base) s =
    s.loadPart (s.effAddr base offset) (s.leftFirst (s.effAddr base offset) 4)
      (s.byteIndex (s.effAddr base offset) 4 + 1) fun t m => t.setX rt (wordResult (lowWord
        (mergeLeft 4 (s.byteIndex (s.effAddr base offset) 4) m (s.x .rt rt)))) := by
  unfold exec execLwl
  rfl

theorem exec_lwr : exec (.lwr rt offset base) s =
    s.loadPart (s.effAddr base offset) (s.rightFirst (s.effAddr base offset) 4)
      (4 - s.byteIndex (s.effAddr base offset) 4) fun t m => t.setX rt
        (lwrValue s.cfg.lwrUpper (s.byteIndex (s.effAddr base offset) 4) m (s.x .rt rt)) := by
  unfold exec execLwr
  rfl

theorem exec_ldl : exec (.ldl rt offset base) s =
    s.loadPart (s.effAddr base offset) (s.leftFirst (s.effAddr base offset) 8)
      (s.byteIndex (s.effAddr base offset) 8 + 1) fun t m => t.setX rt
        (mergeLeft 8 (s.byteIndex (s.effAddr base offset) 8) m (s.x .rt rt)) := by
  unfold exec execLdl
  rfl

theorem exec_ldr : exec (.ldr rt offset base) s =
    s.loadPart (s.effAddr base offset) (s.rightFirst (s.effAddr base offset) 8)
      (8 - s.byteIndex (s.effAddr base offset) 8) fun t m => t.setX rt
        (mergeRight 8 (s.byteIndex (s.effAddr base offset) 8) m (s.x .rt rt)) := by
  unfold exec execLdr
  rfl

end

/-- Settles O30: each form by the bytes it merges. -/
theorem unalignedLoads : Obligations.UnalignedLoads := by
  intro s rt base offset va old p k as address
  obtain rfl : va = s.effAddr base offset := address
  rintro rfl
  dsimp only
  constructor
  · rintro rfl
    have inside := s.byteIndex_lt (n := 4) (s.effAddr base offset) (by decide)
    rw [← State.byteIndex_add_one s _ (by decide), ← State.sub_byteIndex s _ (by decide)]
    constructor
    · rintro rfl l
      refine ⟨_, ?_, loadPart_completes (exec_lwl ..) l⟩
      have merged := toNat_mergeLeft (old := s.x .rt rt) inside (by decide) (loaded_lt l (by omega))
      have place : 32 - 8 * (s.byteIndex (s.effAddr base offset) 4 + 1) =
        8 * (4 - 1 - s.byteIndex (s.effAddr base offset) 4) := by omega
      rw [place, ← merged]
      exact toInt_signExtend_setWidth _ (by decide)
    · rintro rfl l
      have small := loaded_lt l (by omega)
      exact ⟨_, ⟨lwrValue_low _ inside small, lwrValue_high _⟩, loadPart_completes (exec_lwr ..) l⟩
  · rintro rfl
    have inside := s.byteIndex_lt (n := 8) (s.effAddr base offset) (by decide)
    rw [← State.byteIndex_add_one s _ (by decide), ← State.sub_byteIndex s _ (by decide)]
    constructor
    · rintro rfl l
      refine ⟨_, ?_, loadPart_completes (exec_ldl ..) l⟩
      have place : 64 - 8 * (s.byteIndex (s.effAddr base offset) 8 + 1) =
        8 * (8 - 1 - s.byteIndex (s.effAddr base offset) 8) := by omega
      rw [place]
      exact toNat_mergeLeft inside (by decide) (loaded_lt l (by omega))
    · rintro rfl l
      exact ⟨_, toNat_mergeRight (by decide) (loaded_lt l (by omega)),
        loadPart_completes (exec_ldr ..) l⟩

/-- Settles O31: each form by the part of the register it stores. -/
theorem unalignedStores : Obligations.UnalignedStores := by
  intro s rt base offset va x p k as inv wide address
  obtain rfl : va = s.effAddr base offset := address
  rintro rfl
  dsimp only
  constructor
  · rintro rfl
    have inside := s.byteIndex_lt (n := 4) (s.effAddr base offset) (by decide)
    rw [← State.byteIndex_add_one s _ (by decide), ← State.sub_byteIndex s _ (by decide)]
    constructor
    · rintro rfl l
      refine storePart_completes inv wide (by omega) rfl l ?_
      rw [toNat_ushiftRight_mod]
      congr 3 <;> omega
    · rintro rfl l
      exact storePart_completes inv wide (by omega) rfl l rfl
  · rintro rfl
    have inside := s.byteIndex_lt (n := 8) (s.effAddr base offset) (by decide)
    rw [← State.byteIndex_add_one s _ (by decide), ← State.sub_byteIndex s _ (by decide)]
    constructor
    · rintro rfl l
      refine storePart_completes inv wide (by omega) rfl l ?_
      have doubleword : 8 * (7 - s.byteIndex (s.effAddr base offset) 8) +
        8 * (s.byteIndex (s.effAddr base offset) 8 + 1) = 64 := by omega
      rw [toNat_ushiftRight_mod, doubleword, Nat.mod_eq_of_lt (BitVec.isLt _)]
      congr 2
      omega
    · rintro rfl l
      exact storePart_completes inv wide (by omega) rfl l rfl

end Sys2Proof.Machine
end

section
/-! PROOFS. LDL and LDR on consecutive bytes (40_cpu_load_store.md R213), in big-endian order over flat memory:
what each of them loads, and that the second one completes the doubleword of the first. -/

namespace Sys2Proof.Machine

open Sys2Proof

variable {s t : State} {va first : Word} {n : Nat} {rt base : RegNum} {offset : BitVec 16}

/-! ### Flat memory -/

/-- Big-endian order, and every address is its own physical address (20_memory.md R84, R104). -/
structure State.Flat (s : State) : Prop where
  bigEndian : s.bigEndianCpu = true
  order : s.cfg.reverseEndian = false
  table : s.cfg.translate = []
  size : s.cfg.psize = 64
  backing : s.cfg.unbacked = []

theorem State.Flat.of_cfg (h : s.Flat) (cfg : t.cfg = s.cfg) : t.Flat := by
  obtain ⟨bigEndian, order, table, size, backing⟩ := h
  constructor
  · rwa [State.bigEndianCpu, cfg]
  all_goals rwa [cfg]

/-- The bytes memory holds at `n` consecutive addresses. -/
def State.bytesFrom (s : State) (first : Word) (n : Nat) : List Byte :=
  (List.range n).map fun i => s.mem.read (first + BitVec.ofNat 64 i).toNat

@[simp] theorem State.bytesFrom_length (s : State) (first : Word) (n : Nat) :
    (s.bytesFrom first n).length = n := by
  simp [State.bytesFrom]

theorem State.bytesFrom_add (s : State) (first : Word) (j k : Nat) :
    s.bytesFrom first (j + k) = s.bytesFrom first j ++ s.bytesFrom (first + BitVec.ofNat 64 j) k := by
  simp only [State.bytesFrom, List.range_add, List.map_append, List.map_map]
  congr 2
  funext i
  simp [BitVec.add_assoc]

theorem State.bytesFrom_of_mem (h : ∀ a, t.mem.read a = s.mem.read a) :
    t.bytesFrom first n = s.bytesFrom first n := by
  simp only [State.bytesFrom, h]

/-- The addresses that hold them. -/
def addressesFrom (first : Word) (n : Nat) : List Nat :=
  (List.range n).map fun i => (first + BitVec.ofNat 64 i).toNat

theorem State.Flat.locate (h : s.Flat) (va first : Word) (n : Nat) (k : Access) :
    s.locate va first n k = .ok (addressesFrom first n) := by
  obtain ⟨located, -⟩ := accessLocation s va first n k
  rw [located h.table h.size h.backing, h.order]
  simp [addressesFrom]

theorem map_readByte_addressesFrom
    (defined : ∀ i < n, (first + BitVec.ofNat 64 i).toNat ∉ s.undefMem) :
    (addressesFrom first n).map s.readByte = s.bytesFrom first n := by
  rw [addressesFrom, State.bytesFrom, List.map_map]
  exact List.map_congr_left fun i hi => State.readByte_of_not_mem (defined i (List.mem_range.mp hi))

/-- Most significant bytes first (20_memory.md R84). -/
theorem valueOfBytes_append (xs ys : List Byte) (short : xs.length + ys.length ≤ 8) :
    (valueOfBytes true (xs ++ ys)).toNat =
      (valueOfBytes true xs).toNat * 2 ^ (8 * ys.length) + (valueOfBytes true ys).toNat := by
  rw [valueOfBytes_toNat (by rwa [List.length_append]), valueOfBytes_toNat (by omega),
    valueOfBytes_toNat (by omega)]
  simp only [leastFirst, if_true, List.reverse_append, List.map_append, Nat.ofDigits_append]
  rw [List.length_map, List.length_reverse, pow_mul, mul_comm, add_comm]
  rfl

/-- Eight bytes, of which the last `n` are taken apart. -/
theorem valueOfBytes_bytesFrom_eight (s : State) (va : Word) (h : n ≤ 8) :
    (valueOfBytes true (s.bytesFrom va 8)).toNat =
      (valueOfBytes true (s.bytesFrom va (8 - n))).toNat * 2 ^ (8 * n) +
        (valueOfBytes true (s.bytesFrom (va + BitVec.ofNat 64 (8 - n)) n)).toNat := by
  have halves := State.bytesFrom_add s va (8 - n) n
  rw [Nat.sub_add_cancel h] at halves
  rw [halves, valueOfBytes_append _ _ (by simp only [State.bytesFrom_length]; omega),
    State.bytesFrom_length]

/-! ### The two forms -/

/-- LDL puts the bytes from the address up to the end of its doubleword above the rest of the register. -/
theorem ldl_flat (flat : s.Flat) (address : va = s.x .rs base + offset.signExtend 64)
    (defined : ∀ i < 8 - va.toNat % 8, (va + BitVec.ofNat 64 i).toNat ∉ s.undefMem)
    (runs : exec (.ldl rt offset base) s = .next t) :
    Frame s t { gprs := [rt], llBit := s.llBit } ∧ ∃ v, t.Holds rt v ∧
      v.toNat / 2 ^ (8 * (va.toNat % 8)) =
        (valueOfBytes true (s.bytesFrom va (8 - va.toNat % 8))).toNat := by
  obtain ⟨-, double⟩ := unalignedLoads s rt base offset va _ (va.toNat % 8) (8 - va.toNat % 8)
    (addressesFrom va (8 - va.toNat % 8)) address rfl
  obtain ⟨left, -⟩ := double rfl
  have located := flat.locate va va (8 - va.toNat % 8) .load
  simp only [flat.bigEndian, if_true, map_readByte_addressesFrom defined] at left
  obtain ⟨v, value, t', runs', -, -, frame, holds⟩ := left trivial located
  obtain rfl : t = t' := by injection runs.symm.trans runs'
  have kept : 64 - 8 * (8 - va.toNat % 8) = 8 * (va.toNat % 8) := by omega
  refine ⟨frame, v, holds, ?_⟩
  rw [value, kept, mul_comm, Nat.mul_add_div (by positivity), Nat.div_eq_of_lt (Nat.mod_lt _ (by positivity)),
    Nat.add_zero]

/-- LDR puts the bytes from the start of the doubleword up to the address below the rest of the register. -/
theorem ldr_flat (flat : s.Flat) (address : va = s.x .rs base + offset.signExtend 64)
    (defined : ∀ i < va.toNat % 8 + 1, (alignDown va 8 + BitVec.ofNat 64 i).toNat ∉ s.undefMem)
    (runs : exec (.ldr rt offset base) s = .next t) :
    ∃ v, t.Holds rt v ∧
      v.toNat = (valueOfBytes true (s.bytesFrom (alignDown va 8) (va.toNat % 8 + 1))).toNat +
        (s.x .rt rt).toNat / 2 ^ (8 * (va.toNat % 8 + 1)) * 2 ^ (8 * (va.toNat % 8 + 1)) := by
  obtain ⟨-, double⟩ := unalignedLoads s rt base offset va _ (va.toNat % 8) (va.toNat % 8 + 1)
    (addressesFrom (alignDown va 8) (va.toNat % 8 + 1)) address rfl
  obtain ⟨-, right⟩ := double rfl
  have located := flat.locate va (alignDown va 8) (va.toNat % 8 + 1) .load
  simp only [flat.bigEndian, if_true, map_readByte_addressesFrom defined] at right
  obtain ⟨v, value, t', runs', -, -, -, holds⟩ := right trivial located
  obtain rfl : t = t' := by injection runs.symm.trans runs'
  exact ⟨v, holds, value⟩

/-! ### The second access -/

/-- An offset seven greater addresses the seventh byte on. -/
theorem signExtend_add_seven {offset offset' : BitVec 16} (h : offset'.toInt = offset.toInt + 7) :
    offset'.signExtend 64 = offset.signExtend 64 + 7 := by
  refine BitVec.eq_of_toInt_eq ?_
  have low := BitVec.le_toInt offset
  have high := BitVec.toInt_lt (x := offset)
  rw [BitVec.toInt_add, BitVec.toInt_signExtend_of_le (by decide),
    BitVec.toInt_signExtend_of_le (by decide), h]
  refine (Int.bmod_eq_of_le ?_ ?_).symm
  all_goals
    simp at low high ⊢
    omega

theorem toNat_add_seven (va : Word) : (va + 7).toNat = (va.toNat + 7) % 2 ^ 64 := BitVec.toNat_add va 7

/-- The eight bytes from an aligned address end in its own doubleword. -/
theorem seventh_of_aligned (h : va.toNat % 8 = 0) :
    (va + 7).toNat % 8 + 1 = 8 ∧ alignDown (va + 7) 8 = va := by
  have place : (va + 7).toNat % 8 = 7 := by
    rw [toNat_add_seven]
    omega
  refine ⟨by omega, ?_⟩
  rw [alignDown, place]
  exact BitVec.add_sub_cancel ..

/-- Those from any other address end in the next one. -/
theorem seventh_of_misaligned (h : va.toNat % 8 ≠ 0) :
    (va + 7).toNat % 8 + 1 = va.toNat % 8 ∧
      alignDown (va + 7) 8 = va + BitVec.ofNat 64 (8 - va.toNat % 8) := by
  have place : (va + 7).toNat % 8 = va.toNat % 8 - 1 := by
    rw [toNat_add_seven]
    omega
  refine ⟨by omega, BitVec.eq_of_toNat_eq ?_⟩
  rw [alignDown, place]
  rw [BitVec.toNat_sub, toNat_add_seven, BitVec.toNat_add, BitVec.toNat_ofNat, BitVec.toNat_ofNat]
  omega

/-- Settles O33: at an aligned address LDR loads the whole doubleword, at any other it fills in the bytes that
LDL left. -/
theorem unalignedPairLoadsDoubleword : Obligations.UnalignedPairLoadsDoubleword := by
  intro s t u rt base offset offset' b va rt_ne base_ne cell big order table size backing address
    seven defined ldl ldr
  have flat : s.Flat := ⟨big, order, table, size, backing⟩
  have base_s : s.x .rs base = b := by rw [State.x_eq_cellX, cell, Reg.read_of]
  obtain ⟨frame, v, holds, upper⟩ :=
    ldl_flat flat (by rw [base_s, address]) (fun i hi => defined i (by omega)) ldl
  have base_t : t.x .rs base = b := by
    have same_cell : t.cellX base = s.cellX base := by
      rw [State.cellX, State.cellX, frame.gpr base (.inl (by simpa using base_ne))]
    rw [State.x_eq_cellX, same_cell, cell, Reg.read_of]
  have address' : va + 7 = t.x .rs base + offset'.signExtend 64 := by
    rw [base_t, signExtend_add_seven seven, address, BitVec.add_assoc]
  have defined_t (i : Nat) (hi : i < 8) : (va + BitVec.ofNat 64 i).toNat ∉ t.undefMem :=
    fun undefined => defined i hi ((frame.undefMem _ List.not_mem_nil).mp undefined)
  have same_bytes (first : Word) (n : Nat) : t.bytesFrom first n = s.bytesFrom first n :=
    State.bytesFrom_of_mem fun a => frame.mem a List.not_mem_nil
  have second := ldr_flat (flat.of_cfg frame.cfg) address' (t := u) (rt := rt)
  rw [holds.x rt_ne] at second
  show u.Holds rt (valueOfBytes true (s.bytesFrom va 8))
  by_cases aligned_va : va.toNat % 8 = 0
  · obtain ⟨count, start⟩ := seventh_of_aligned aligned_va
    rw [count, start, same_bytes, Nat.div_eq_of_lt v.isLt, Nat.zero_mul, Nat.add_zero] at second
    obtain ⟨v', holds', value⟩ := second defined_t ldr
    rwa [← BitVec.eq_of_toNat_eq value]
  · obtain ⟨count, start⟩ := seventh_of_misaligned aligned_va
    rw [count, start, same_bytes, upper] at second
    have defined_rest (i : Nat) (hi : i < va.toNat % 8) :
        (va + BitVec.ofNat 64 (8 - va.toNat % 8) + BitVec.ofNat 64 i).toNat ∉ t.undefMem := by
      rw [BitVec.add_assoc, ← BitVec.ofNat_add]
      exact defined_t _ (by omega)
    obtain ⟨v', holds', value⟩ := second defined_rest ldr
    have both := valueOfBytes_bytesFrom_eight s va (Nat.mod_lt va.toNat (by decide : 8 > 0)).le
    rw [add_comm, ← value] at both
    rwa [BitVec.eq_of_toNat_eq both]

end Sys2Proof.Machine
end

section
/-! PROOFS. The linked loads and conditional stores (40_cpu_load_store.md R222 to R226): what the link records,
and when a store conditional performs its store. -/

namespace Sys2Proof.Machine

open Sys2Proof

variable {i : Instr} {s t : State} {va pa : Word} {n : Nat} {as : List Nat} {rt : RegNum} {cca : Cca}
  {e : Exc}

/-! ### Linked loads -/

/-- Translation depends on the parameters alone (20_memory.md R104). -/
theorem State.translated_of_cfg (h : t.cfg = s.cfg) (va : Word) (k : Access) :
    t.translated va k = s.translated va k := by
  unfold State.translated State.translateVa State.truncate
  rw [h]

theorem State.setLink_located (l : s.translated va .load = .ok (pa, cca)) (n : Nat) :
    s.setLink va n =
      { s with llBit := true,
               llAddr := { pa := pa, width := n, cached := decide (cca ≠ .uncached) } } := by
  unfold State.setLink
  rw [l]
  cases cca <;> rfl

theorem loadLinked_completes {g : Word → Word}
    (runs : exec i s = s.loadLinked va n fun t m => t.setX rt (g m)) (low : va.toNat % n = 0)
    (translated : s.translated va .load = .ok (pa, cca)) (l : s.locate va va n .load = .ok as) :
    Completes i s { gprs := [rt], llBit := true, llAddr := true } fun t =>
      t.Holds rt (g (valueOfBytes s.bigEndianCpu (as.map s.readByte))) ∧ t.llBit = true ∧
        t.llAddr = { pa := pa, width := n, cached := decide (cca ≠ .uncached) } := by
  have value := State.memRead_located low l
  generalize valueOfBytes s.bigEndianCpu (as.map s.readByte) = m at value ⊢
  have linked := State.setLink_located
    ((State.translated_of_cfg (State.setX_cfg s rt (g m)) va .load).trans translated) n
  have written : Frame s (s.setX rt (g m)) { gprs := [rt], llBit := true, llAddr := true } :=
    (Frame.refl rfl).setX _ List.mem_cons_self
  refine completes_of_exec (runs.trans ?_) (written.setLink va n rfl rfl) ⟨?_, ?_, ?_⟩
  · simp only [State.loadLinked, value]
  · exact (State.setX_holds s rt (g m)).of_gpr (State.setLink_gpr ..)
  · rw [linked]
    rfl
  · rw [linked]
    rfl

theorem exec_ll {base : RegNum} {offset : BitVec 16} (multiple : offset.toNat % 4 = 0) :
    exec (.ll rt offset base) s =
      s.loadLinked (s.effAddr base offset) 4 fun t m => t.setX rt (wordResult (lowWord m)) :=
  offsetCheck_passes (k := 2) multiple

theorem exec_lld {base : RegNum} {offset : BitVec 16} (multiple : offset.toNat % 8 = 0) :
    exec (.lld rt offset base) s =
      s.loadLinked (s.effAddr base offset) 8 fun t m => t.setX rt m :=
  offsetCheck_passes (k := 3) multiple

/-- Settles O34: the load, and what the link records of its translation. -/
theorem linkedLoads : Obligations.LinkedLoads := by
  rintro s rt base offset _ pa cca as rfl translated
  refine ⟨fun multiple low l => ⟨_, toInt_signExtend_setWidth _ (by decide), ?_⟩,
    fun multiple low l => ⟨_, rfl, ?_⟩⟩
  · exact loadLinked_completes (exec_ll multiple) low translated l
  · exact loadLinked_completes (exec_lld multiple) low translated l

/-! ### The link a store conditional finds (40_cpu_load_store.md R226) -/

theorem State.linkFor_clear (h : s.llBit = false) : s.linkFor pa n cca = false := by
  simp [State.linkFor, h]

theorem State.linkFor_same (h : s.llBit = true)
    (same : s.llAddr = { pa := pa, width := n, cached := true }) (cached : cca ≠ .uncached) :
    s.linkFor pa n cca = true := by
  simp [State.linkFor, h, same, cached]

/-! ### The ways a store conditional ends (40_cpu_load_store.md R224) -/

theorem storeConditional_misaligned (runs : exec i s = s.storeConditional rt va n)
    (h : va.toNat % n ≠ 0) : Raises i s (.addressError va .store) := by
  refine raises_of_exec (runs.trans ?_)
  rw [State.storeConditional, aligned_eq_false h]
  rfl

theorem storeConditional_untranslated (runs : exec i s = s.storeConditional rt va n)
    (low : va.toNat % n = 0) (l : s.translated va .store = .error e) : Raises i s e := by
  refine raises_of_exec (runs.trans ?_)
  simp [State.storeConditional, (aligned_iff va n).mpr low, l]

section

variable (runs : exec i s = s.storeConditional rt va n) (low : va.toNat % n = 0)
  (translated : s.translated va .store = .ok (pa, cca))

include runs low translated

theorem storeConditional_fails (unlinked : s.linkFor pa n cca = false) :
    Completes i s { gprs := [rt], llBit := true } fun t => t.Holds rt 0 ∧ t.llBit = false := by
  have written : Frame s (s.setX rt 0) { gprs := [rt], llBit := true } :=
    (Frame.refl rfl).setX 0 List.mem_cons_self
  refine completes_of_exec (runs.trans ?_) (written.withLlBit false rfl)
    ⟨(State.setX_holds s rt 0).of_gpr rfl, rfl⟩
  simp [State.storeConditional, (aligned_iff va n).mpr low, translated, unlinked]

theorem storeConditional_stores (inv : s.Inv) (wide : 8 ≤ s.cfg.psize) (short : n ≤ 8)
    (linked : s.linkFor pa n cca = true) (l : s.locate va va n .store = .ok as) :
    Completes i s { gprs := [rt], llBit := true, bytes := as } fun t =>
      t.Holds rt 1 ∧ t.llBit = false ∧ t.HoldsBytes as ((s.x .rt rt).toNat % 2 ^ (8 * n)) := by
  have length := State.locate_length l
  have stored := State.memWrite_located (s.x .rt rt) low l
  have bytes : Frame s (s.writeCells (as.zip (bytesOfValue s.bigEndianCpu (s.x .rt rt) n)))
      { gprs := [rt], llBit := true, bytes := as } := .writeCells rfl (by rwa [bytesOfValue_length])
  have held := State.writeCells_holdsBytes inv.mem (State.locate_nodup l short wide) length short
    (s.x .rt rt)
  refine completes_of_exec (runs.trans ?_)
    ((bytes.setX 1 List.mem_cons_self).withLlBit false rfl)
    ⟨(State.setX_holds _ rt 1).of_gpr rfl, rfl, held.of_mem⟩
  simp [State.storeConditional, (aligned_iff va n).mpr low, translated, linked, stored]

theorem storeConditional_raises (linked : s.linkFor pa n cca = true)
    (l : s.locate va va n .store = .error e) : Raises i s e := by
  refine raises_of_exec (runs.trans ?_)
  simp [State.storeConditional, (aligned_iff va n).mpr low, translated, linked,
    State.memWrite_error low l]

end

/-- SC and SCD run the shared operation when their offset is a multiple of the width (20_memory.md R95). -/
theorem exec_storeConditional {base : RegNum} {offset : BitVec 16}
    (h : i = .sc rt offset base ∧ n = 4 ∨ i = .scd rt offset base ∧ n = 8)
    (multiple : offset.toNat % n = 0) :
    exec i s = s.storeConditional rt (s.effAddr base offset) n := by
  rcases h with ⟨rfl, rfl⟩ | ⟨rfl, rfl⟩
  · exact offsetCheck_passes (k := 2) multiple
  · exact offsetCheck_passes (k := 3) multiple

/-- Settles O35: alignment, translation, then the link the store finds, which is certain with LLbit 0 and
after a linked load of the same cached location. -/
theorem storeConditional : Obligations.StoreConditional := by
  rintro s rt base offset _ i n rfl form multiple
  have runs : exec i s = s.storeConditional rt (s.effAddr base offset) n :=
    exec_storeConditional form multiple
  have short : n ≤ 8 := by omega
  refine ⟨storeConditional_misaligned runs, fun e => storeConditional_untranslated runs,
    fun pa cca low translated => ⟨fun clear => ?_, fun as inv wide set same cached l => ?_,
      fun e set same cached l => ?_, fun as inv wide set l => ?_, fun e set l => ?_⟩⟩
  · exact storeConditional_fails runs low translated (State.linkFor_clear clear)
  · exact storeConditional_stores runs low translated inv wide short
      (State.linkFor_same set same cached) l
  · exact storeConditional_raises runs low translated (State.linkFor_same set same cached) l
  · cases found : s.linkFor pa n cca with
    | false => exact .inl (storeConditional_fails runs low translated found)
    | true => exact .inr (storeConditional_stores runs low translated inv wide short found l)
  · cases found : s.linkFor pa n cca with
    | false => exact .inl (storeConditional_fails runs low translated found)
    | true => exact .inr (storeConditional_raises runs low translated found l)

end Sys2Proof.Machine
end

section
/-! SUPPORT. How an instruction that writes one general register completes: what the shared operations of the
ALU leave behind, once their guards are decided. (The last three premises of `completes_of_exec` are cited by
name here: left to its default tactics, each use waits for every definition before it to be compiled.) -/

namespace Sys2Proof.Machine

open Sys2Proof

variable {i : Instr} {s t : State} {w : Footprint} {r : RegNum} {v : Word} {x : BitVec 32}
  {P : Word → Prop} {p : Prop} {words : Bool}

/-! ### Register writes -/

theorem Frame.putX (h : Frame s t w) (c : Reg) (listed : r ∈ w.gprs) : Frame s (t.putX r c) w := by
  have others (q : RegNum) (hq : q ∉ w.gprs ∨ q = 0) :
      (t.putX r c).gpr[q.toNat] = s.gpr[q.toNat] := by
    have apart : q ≠ r ∨ q = 0 := hq.imp_left fun unlisted same => unlisted (same ▸ listed)
    exact (State.putX_gpr_of_ne c apart).trans (h.gpr q hq)
  unfold State.putX at others ⊢
  split
  · exact h
  · next nonzero =>
    rw [if_neg nonzero] at others
    exact { h with gpr := others }

theorem State.undefX_undefined (s : State) (r : RegNum) : (s.undefX r).Undefined r := by
  unfold State.Undefined State.undefX
  rw [State.cellX_putX, if_pos rfl]

theorem writesX_of_writeX (runs : exec i s = s.writeX r v) (value : P v) : WritesX i s r P := by
  have written : Frame s (s.setX r v) { gprs := [r] } := (Frame.refl rfl).setX v List.mem_cons_self
  exact ⟨v, value, completes_of_exec runs written ((State.setX_holds s r v).of_gpr rfl)
    (State.setX_npc ..) (State.setX_hiRd ..) (State.setX_loRd ..)⟩

theorem undefinesX_of_undefX (runs : exec i s = .next (s.undefX r).complete) : UndefinesX i s r := by
  have written : Frame s (s.undefX r) { gprs := [r] } := (Frame.refl rfl).putX _ List.mem_cons_self
  exact completes_of_exec runs written (s.undefX_undefined r) (State.undefX_npc ..)
    (State.undefX_hiRd ..) (State.undefX_loRd ..)

/-! ### Word operations (41_cpu_alu.md R260) -/

theorem writesX_of_writeWord (runs : exec i s = s.writeWord words r x) (guard : words = true ↔ p)
    (holds : p) (value : P (wordResult x)) : WritesX i s r P :=
  writesX_of_writeX (runs.trans (if_pos (guard.mpr holds))) value

theorem undefinesX_of_writeWord (runs : exec i s = s.writeWord words r x) (guard : words = true ↔ p)
    (fails : ¬p) : UndefinesX i s r :=
  undefinesX_of_undefX (runs.trans (if_neg (mt guard.mp fails)))

end Sys2Proof.Machine
end

section
/-! SUPPORT. Word values (10_state.md R33) and the arithmetic of the ALU on them. -/

namespace Sys2Proof.Machine

open Sys2Proof

variable {s : State} {rs rt : RegNum} {v : Word}

/-! ### Words in a doubleword -/

theorem toInt_wordResult (x : BitVec 32) : (wordResult x).toInt = x.toInt :=
  BitVec.toInt_signExtend_of_le (by decide)

theorem toNat_lowWord (v : Word) : (lowWord v).toNat = v.toNat % 2 ^ 32 := BitVec.toNat_setWidth ..

theorem toInt_lowWord_bmod (v : Word) : (lowWord v).toInt = v.toInt.bmod (2 ^ 32) := by
  rw [lowWord, ← BitVec.signExtend_eq_setWidth_of_le v (by decide),
    BitVec.toInt_signExtend_eq_toInt_bmod_of_le v (by decide)]

theorem toInt_lowWord (word : WordValue v) : (lowWord v).toInt = v.toInt := by
  obtain ⟨low, high⟩ := word
  rw [toInt_lowWord_bmod]
  exact Int.bmod_eq_of_le_mul_two (by norm_num; omega) (by norm_num; omega)

theorem isWordValue_iff (v : Word) : isWordValue v = true ↔ WordValue v := by
  have extends_iff : isWordValue v = true ↔ wordResult (lowWord v) = v := beq_iff_eq
  rw [extends_iff]
  constructor
  · intro same
    exact same ▸ wordValue_wordResult (lowWord v)
  · intro word
    exact BitVec.eq_of_toInt_eq ((toInt_wordResult _).trans (toInt_lowWord word))

theorem wordOperands_iff :
    s.wordOperands rs rt = true ↔ WordValue (s.x .rs rs) ∧ WordValue (s.x .rt rt) := by
  rw [State.wordOperands, Bool.and_eq_true, isWordValue_iff, isWordValue_iff]

end Sys2Proof.Machine
end

section
/-! PROOFS. The logical instructions, additions, subtractions and comparisons (41_cpu_alu.md R261 to R284). -/

namespace Sys2Proof.Machine

open Sys2Proof

variable {i : Instr} {s : State} {r : RegNum} {p : Prop} {words : Bool} {computed total : Int}

/-! ### Values -/

theorem toNat_setWidth_imm (imm : BitVec 16) : (imm.setWidth 64).toNat = imm.toNat :=
  BitVec.toNat_setWidth_of_le (by decide)

theorem toInt_signExtend_imm (imm : BitVec 16) : (imm.signExtend 64).toInt = imm.toInt :=
  BitVec.toInt_signExtend_of_le (by decide)

theorem toInt_add_signExtend_imm (v : Word) (imm : BitVec 16) :
    (v + imm.signExtend 64).toInt = (v.toInt + imm.toInt).bmod (2 ^ 64) := by
  rw [BitVec.toInt_add, toInt_signExtend_imm]

theorem getLsbD_nor (a b : Word) {k : Nat} (inside : k < 64) :
    (~~~(a ||| b)).getLsbD k = !(a.getLsbD k || b.getLsbD k) := by
  rw [BitVec.getLsbD_not, BitVec.getLsbD_or, decide_eq_true inside, Bool.true_and]

/-- Settles O16: the value each instruction writes, read as the statement gives it. -/
theorem logicalInstructions : Obligations.LogicalInstructions := by
  intro s rt rs rd imm
  have upper : (wordResult (imm ++ 0#16)).toInt = imm.toInt * 2 ^ 16 := by
    rw [toInt_wordResult, BitVec.toInt_append_zero, mul_comm]
  refine ⟨writesX_of_writeX rfl ?_, writesX_of_writeX rfl ?_, writesX_of_writeX rfl ?_,
    writesX_of_writeX rfl upper, writesX_of_writeX rfl rfl, writesX_of_writeX rfl rfl,
    writesX_of_writeX rfl rfl, writesX_of_writeX rfl fun k inside => getLsbD_nor _ _ inside⟩
  · rw [BitVec.toNat_and, toNat_setWidth_imm]
  · rw [BitVec.toNat_or, toNat_setWidth_imm]
  · rw [BitVec.toNat_xor, toNat_setWidth_imm]

/-! ### Additions and subtractions that never trap -/

/-- Settles O17: the word forms on word values and without them, then the doubleword forms. -/
theorem wrappingAddSubtract : Obligations.WrappingAddSubtract := by
  intro s rt rs rd imm
  refine ⟨fun word => ?_, undefinesX_of_writeWord rfl (isWordValue_iff _), fun both => ⟨?_, ?_⟩,
    fun not_both => ⟨undefinesX_of_writeWord rfl wordOperands_iff not_both,
      undefinesX_of_writeWord rfl wordOperands_iff not_both⟩,
    writesX_of_writeX rfl (toInt_add_signExtend_imm ..), writesX_of_writeX rfl (BitVec.toInt_add ..),
    writesX_of_writeX rfl (BitVec.toInt_sub ..)⟩
  · refine writesX_of_writeWord rfl (isWordValue_iff _) word ?_
    rw [toInt_wordResult, BitVec.toInt_add, toInt_lowWord word, BitVec.toInt_signExtend_of_le (by decide)]
  · refine writesX_of_writeWord rfl wordOperands_iff both ?_
    obtain ⟨word_rs, word_rt⟩ := both
    rw [toInt_wordResult, BitVec.toInt_add, toInt_lowWord word_rs, toInt_lowWord word_rt]
  · refine writesX_of_writeWord rfl wordOperands_iff both ?_
    obtain ⟨word_rs, word_rt⟩ := both
    rw [toInt_wordResult, BitVec.toInt_sub, toInt_lowWord word_rs, toInt_lowWord word_rt]

/-! ### Additions and subtractions that trap (41_cpu_alu.md R315) -/

theorem fitsWord_iff (x : Int) : fitsWord x = true ↔ -2 ^ 31 ≤ x ∧ x < 2 ^ 31 := by
  rw [fitsWord, Bool.and_eq_true, decide_eq_true_eq, decide_eq_true_eq, Int.le_sub_one_iff]

theorem fitsDouble_iff (x : Int) : fitsDouble x = true ↔ -2 ^ 63 ≤ x ∧ x < 2 ^ 63 := by
  rw [fitsDouble, Bool.and_eq_true, decide_eq_true_eq, decide_eq_true_eq, Int.le_sub_one_iff]

theorem toInt_wordResult_ofInt {x : Int} (fits : -2 ^ 31 ≤ x ∧ x < 2 ^ 31) :
    (wordResult (BitVec.ofInt 32 x)).toInt = x := by
  rw [toInt_wordResult]
  exact BitVec.toInt_ofInt_eq_self (by decide) fits.1 fits.2

/-- A word sum that traps, `computed` in the model and `total` in the statement, which agree on word values. -/
theorem addWord_traps (runs : exec i s = s.addWord words r computed) (guard : words = true ↔ p)
    (agree : p → computed = total) :
    (p → -2 ^ 31 ≤ total ∧ total < 2 ^ 31 → WritesX i s r (fun v => v.toInt = total)) ∧
      (p → ¬(-2 ^ 31 ≤ total ∧ total < 2 ^ 31) → Raises i s .integerOverflow) ∧
      (¬p → UndefinesX i s r ∨ Raises i s .integerOverflow) := by
  unfold State.addWord at runs
  refine ⟨fun holds fits => ?_, fun holds overflows => ?_, fun fails => ?_⟩
  · rw [if_pos (guard.mpr holds), agree holds, if_pos ((fitsWord_iff _).mpr fits)] at runs
    exact writesX_of_writeX runs (toInt_wordResult_ofInt fits)
  · rw [if_pos (guard.mpr holds), agree holds, if_neg (mt (fitsWord_iff _).mp overflows)] at runs
    exact raises_of_exec runs
  · rw [if_neg (mt guard.mp fails)] at runs
    split at runs
    · exact .inr (raises_of_exec runs)
    · exact .inl (undefinesX_of_undefX runs)

theorem addDouble_traps (runs : exec i s = s.addDouble r total) :
    (-2 ^ 63 ≤ total ∧ total < 2 ^ 63 → WritesX i s r (fun v => v.toInt = total)) ∧
      (¬(-2 ^ 63 ≤ total ∧ total < 2 ^ 63) → Raises i s .integerOverflow) := by
  unfold State.addDouble at runs
  refine ⟨fun fits => ?_, fun overflows => ?_⟩
  · rw [if_pos ((fitsDouble_iff _).mpr fits)] at runs
    exact writesX_of_writeX runs (BitVec.toInt_ofInt_eq_self (by decide) fits.1 fits.2)
  · rw [if_neg (mt (fitsDouble_iff _).mp overflows)] at runs
    exact raises_of_exec runs

/-- Settles O18: on word values the sum of the low words is the sum of the registers. -/
theorem trappingAddSubtract : Obligations.TrappingAddSubtract := by
  intro s rt rs rd imm word double
  refine ⟨addWord_traps rfl (isWordValue_iff _) fun word => ?_, addWord_traps rfl wordOperands_iff ?_,
    addWord_traps rfl wordOperands_iff ?_, addDouble_traps rfl, addDouble_traps rfl, addDouble_traps rfl⟩
  · rw [toInt_lowWord word]
  · rintro ⟨word_rs, word_rt⟩
    rw [toInt_lowWord word_rs, toInt_lowWord word_rt]
  · rintro ⟨word_rs, word_rt⟩
    rw [toInt_lowWord word_rs, toInt_lowWord word_rt]

/-! ### Comparisons -/

theorem boolWord_slt (a b : Word) : boolWord (a.slt b) = if a.toInt < b.toInt then 1 else 0 := by
  simp only [boolWord, BitVec.slt_iff_toInt_lt]

theorem boolWord_ult (a b : Word) : boolWord (a.ult b) = if a.toNat < b.toNat then 1 else 0 := by
  simp only [boolWord, BitVec.ult_iff_toNat_lt]

/-- Settles O19: the signed comparison is of `toInt`, the unsigned one of `toNat`. -/
theorem setOnLessThan : Obligations.SetOnLessThan := by
  intro s rt rs rd imm
  refine ⟨writesX_of_writeX rfl ?_, writesX_of_writeX rfl (boolWord_ult ..),
    writesX_of_writeX rfl (boolWord_slt ..), writesX_of_writeX rfl (boolWord_ult ..)⟩
  rw [boolWord_slt, toInt_signExtend_imm]

end Sys2Proof.Machine
end

section
/-! PROOFS. The shifts (41_cpu_alu.md R285 to R299), the amount fixed or from a register. -/

namespace Sys2Proof.Machine

open Sys2Proof

variable {v : Word}

/-! ### Values -/

theorem toInt_shiftLeft_lowWord (v : Word) (n : Nat) :
    (wordResult (lowWord v <<< n)).toInt = (v.toInt * 2 ^ n).bmod (2 ^ 32) := by
  rw [toInt_wordResult, BitVec.toInt_shiftLeft, Nat.shiftLeft_eq, Nat.cast_mul, Nat.cast_pow,
    Nat.cast_ofNat, ← Int.bmod_mul_bmod, ← BitVec.toInt_eq_toNat_bmod, toInt_lowWord_bmod,
    Int.bmod_mul_bmod]

theorem toInt_ushiftRight_lowWord (v : Word) (n : Nat) :
    (wordResult (lowWord v >>> n)).toInt = ((v.toNat % 2 ^ 32 / 2 ^ n : Nat) : Int).bmod (2 ^ 32) := by
  rw [toInt_wordResult, BitVec.toInt_eq_toNat_bmod, BitVec.toNat_ushiftRight, toNat_lowWord,
    Nat.shiftRight_eq_div_pow]

theorem toInt_sshiftRight_eq_div {w : Nat} (x : BitVec w) (n : Nat) :
    (x.sshiftRight n).toInt = x.toInt / 2 ^ n := by
  rw [BitVec.toInt_sshiftRight, Int.shiftRight_eq_div_pow, Nat.cast_pow, Nat.cast_ofNat]

theorem toInt_sshiftRight_lowWord (word : WordValue v) (n : Nat) :
    (wordResult ((lowWord v).sshiftRight n)).toInt = v.toInt / 2 ^ n := by
  rw [toInt_wordResult, toInt_sshiftRight_eq_div, toInt_lowWord word]

theorem toNat_shiftLeft_eq_mul (v : Word) (n : Nat) : (v <<< n).toNat = v.toNat * 2 ^ n % 2 ^ 64 := by
  rw [BitVec.toNat_shiftLeft, Nat.shiftLeft_eq]

theorem toNat_ushiftRight_eq_div (v : Word) (n : Nat) : (v >>> n).toNat = v.toNat / 2 ^ n := by
  rw [BitVec.toNat_ushiftRight, Nat.shiftRight_eq_div_pow]

theorem State.amount5_eq (s : State) (rs : RegNum) : s.amount5 rs = (s.x .rs rs).toNat % 32 :=
  BitVec.toNat_setWidth ..

theorem State.amount6_eq (s : State) (rs : RegNum) : s.amount6 rs = (s.x .rs rs).toNat % 64 :=
  BitVec.toNat_setWidth ..

/-! ### The statements -/

/-- Settles O20: the word forms, then the doubleword forms for amounts below 32 and from 32. -/
theorem fixedShifts : Obligations.FixedShifts := by
  intro s rd rt sa
  refine ⟨writesX_of_writeX rfl (toInt_shiftLeft_lowWord ..), fun word => ⟨?_, ?_⟩,
    fun not_word => ⟨undefinesX_of_writeWord rfl (isWordValue_iff _) not_word,
      undefinesX_of_writeWord rfl (isWordValue_iff _) not_word⟩,
    writesX_of_writeX rfl (toNat_shiftLeft_eq_mul ..), writesX_of_writeX rfl (toNat_ushiftRight_eq_div ..),
    writesX_of_writeX rfl (toInt_sshiftRight_eq_div ..), ?_⟩
  · exact writesX_of_writeWord rfl (isWordValue_iff _) word (toInt_ushiftRight_lowWord ..)
  · exact writesX_of_writeWord rfl (isWordValue_iff _) word (toInt_sshiftRight_lowWord word _)
  · rw [Nat.add_comm 32]
    exact ⟨writesX_of_writeX rfl (toNat_shiftLeft_eq_mul ..),
      writesX_of_writeX rfl (toNat_ushiftRight_eq_div ..),
      writesX_of_writeX rfl (toInt_sshiftRight_eq_div ..)⟩

/-- Settles O21: as the shifts by a fixed amount, by the low bits of `rs`. -/
theorem variableShifts : Obligations.VariableShifts := by
  intro s rd rt rs
  rw [← s.amount5_eq, ← s.amount6_eq]
  refine ⟨writesX_of_writeX rfl (toInt_shiftLeft_lowWord ..), fun word => ⟨?_, ?_⟩,
    fun not_word => ⟨undefinesX_of_writeWord rfl (isWordValue_iff _) not_word,
      undefinesX_of_writeWord rfl (isWordValue_iff _) not_word⟩,
    writesX_of_writeX rfl (toNat_shiftLeft_eq_mul ..), writesX_of_writeX rfl (toNat_ushiftRight_eq_div ..),
    writesX_of_writeX rfl (toInt_sshiftRight_eq_div ..)⟩
  · exact writesX_of_writeWord rfl (isWordValue_iff _) word (toInt_ushiftRight_lowWord ..)
  · exact writesX_of_writeWord rfl (isWordValue_iff _) word (toInt_sshiftRight_lowWord word _)

end Sys2Proof.Machine
end

section
/-! PROOFS. The HI/LO read hazard (41_cpu_alu.md R300): only an ending touches the read records, and every
writer of HI or LO looks at them first. -/

namespace Sys2Proof.Machine

open Sys2Proof

variable {i : Instr} {s t u : State}

/-! ### The records age -/

theorem Update.records_eq (h : Update i s t) : t.hiRd = s.hiRd ∧ t.loRd = s.loRd := by
  cases h with
  | gpr => exact ⟨State.putX_hiRd .., State.putX_loRd ..⟩
  | tag => exact ⟨State.setTag_hiRd .., State.setTag_loRd ..⟩
  | hi | lo | unlink | link | fgr | fcsr | byte | undefByte => exact ⟨rfl, rfl⟩

theorem Updates.records_eq (h : Updates i s t) : t.hiRd = s.hiRd ∧ t.loRd = s.loRd := by
  refine h.keeps (P := fun v => v.hiRd = s.hiRd ∧ v.loRd = s.loRd) (fun v v' update same => ?_) ⟨rfl, rfl⟩
  obtain ⟨hiRd, loRd⟩ := update.records_eq
  exact ⟨hiRd.trans same.1, loRd.trans same.2⟩

theorem Instr.starts_no_record (h : i.isPlain = true ∨ i.isJump = true) :
    (¬∃ rd, i = .mfhi rd) ∧ ¬∃ rd, i = .mflo rd := by
  constructor
  all_goals
    rintro ⟨rd, rfl⟩
    rcases h with h | h <;> cases h

theorem Ends.records (h : Ends i s t) :
    t.hiRd = (if (∃ rd, i = .mfhi rd) then .age0 else s.hiRd.older) ∧
      t.loRd = (if (∃ rd, i = .mflo rd) then .age0 else s.loRd.older) := by
  cases h with
  | complete plain =>
    obtain ⟨not_mfhi, not_mflo⟩ := Instr.starts_no_record (.inl plain)
    rw [if_neg not_mfhi, if_neg not_mflo]
    exact ⟨rfl, rfl⟩
  | readHi reader =>
    have not_mflo : ¬∃ rd, i = .mflo rd := by
      obtain ⟨rd, rfl⟩ := reader
      rintro ⟨_, ⟨⟩⟩
    rw [if_pos reader, if_neg not_mflo]
    exact ⟨rfl, rfl⟩
  | readLo reader =>
    have not_mfhi : ¬∃ rd, i = .mfhi rd := by
      obtain ⟨rd, rfl⟩ := reader
      rintro ⟨_, ⟨⟩⟩
    rw [if_neg not_mfhi, if_pos reader]
    exact ⟨rfl, rfl⟩
  | jump jumps =>
    obtain ⟨not_mfhi, not_mflo⟩ := Instr.starts_no_record (.inr jumps)
    rw [if_neg not_mfhi, if_neg not_mflo]
    exact ⟨rfl, rfl⟩
  | likely jumps =>
    obtain ⟨not_mfhi, not_mflo⟩ := Instr.starts_no_record (.inr jumps)
    rw [if_neg not_mfhi, if_neg not_mflo]
    exact ⟨State.jumpLikely_hiRd .., State.jumpLikely_loRd ..⟩

theorem Effect.records (h : Effect i s t) (untrapped : t.trap = none) :
    t.hiRd = (if (∃ rd, i = .mfhi rd) then .age0 else s.hiRd.older) ∧
      t.loRd = (if (∃ rd, i = .mflo rd) then .age0 else s.loRd.older) := by
  cases h with
  | raised | raisedFp => cases untrapped
  | ended updates ends =>
    obtain ⟨hiRd, loRd⟩ := updates.records_eq
    rw [← hiRd, ← loRd]
    exact ends.records

/-! ### Writers of HI and LO -/

section

variable (record : s.hiRd ≠ .none ∨ s.loRd ≠ .none)

include record

theorem State.writeHiLo_refused (h l : Reg) : s.writeHiLo h l = .refused .hiLoHazard :=
  if_neg (not_and_or.mpr record)

theorem State.writeHiLoWords_refused (words : Bool) (h l : BitVec 32) :
    s.writeHiLoWords words h l = .refused .hiLoHazard := by
  unfold State.writeHiLoWords
  split
  · exact State.writeHiLo_refused record ..
  · exact State.writeHiLo_refused record ..

/-- A multiply or divide of every kind is refused, with a result or without one. -/
theorem exec_mulDiv_refused (mulDiv : i.isMulDiv = true) : exec i s = .refused .hiLoHazard := by
  cases i with
  | mult | multu => exact State.writeHiLoWords_refused record ..
  | dmult | dmultu => exact State.writeHiLo_refused record ..
  | div | divu =>
    exact ite_eq_iff'.mpr ⟨fun _ => State.writeHiLo_refused record .., fun _ =>
      State.writeHiLoWords_refused record ..⟩
  | ddiv | ddivu =>
    exact ite_eq_iff'.mpr ⟨fun _ => State.writeHiLo_refused record .., fun _ =>
      State.writeHiLo_refused record ..⟩
  | _ => cases mulDiv

end

/-- Settles O13: what any instruction's effect does to the records, and the refusals of each writer. -/
theorem hiLoReadHazard : Obligations.HiLoReadHazard :=
  ⟨fun _ _ _ _ executed untrapped => (exec_effect executed).records untrapped,
    fun _ _ mulDiv record => exec_mulDiv_refused record mulDiv,
    fun _ _ record => if_neg record, fun _ _ record => if_neg record⟩

end Sys2Proof.Machine
end

section
/-! SUPPORT. How the writers of HI and LO complete outside the read hazard (41_cpu_alu.md R300). -/

namespace Sys2Proof.Machine

open Sys2Proof

variable {i : Instr} {s t : State} {w : Footprint}

theorem Frame.putHiLo (h : Frame s t w) (hi : w.hi = true) (lo : w.lo = true) (c d : Reg) :
    Frame s (t.putHiLo c d) w :=
  { h with
    hi := fun kept => by simp [hi] at kept
    lo := fun kept => by simp [lo] at kept }

section

variable {h l : Word} {x y : BitVec 32} {P : Word → Word → Prop} {p : Prop} {words : Bool}
  (hiFree : s.hiRd = .none) (loFree : s.loRd = .none)

include hiFree loFree

theorem completes_of_writeHiLo {c d : Reg} (runs : exec i s = s.writeHiLo c d) :
    Completes i s { hi := true, lo := true } fun t => t.hi = c ∧ t.lo = d := by
  have free : exec i s = .next (s.putHiLo c d).complete := runs.trans (if_pos ⟨hiFree, loFree⟩)
  exact completes_of_exec free ((Frame.refl rfl).putHiLo rfl rfl c d) ⟨rfl, rfl⟩ rfl rfl rfl

theorem writesHiLo_of_writeHiLo (runs : exec i s = s.writeHiLo (Reg.of h) (Reg.of l)) (value : P h l) :
    WritesHiLo i s P :=
  ⟨h, l, value, completes_of_writeHiLo hiFree loFree runs⟩

theorem undefinesHiLo_of_undefHiLo (runs : exec i s = s.undefHiLo) : UndefinesHiLo i s :=
  completes_of_writeHiLo hiFree loFree runs

theorem writesHiLo_of_writeHiLoWords (runs : exec i s = s.writeHiLoWords words x y)
    (guard : words = true ↔ p) (holds : p) (value : P (wordResult x) (wordResult y)) :
    WritesHiLo i s P :=
  writesHiLo_of_writeHiLo hiFree loFree (runs.trans (if_pos (guard.mpr holds))) value

theorem undefinesHiLo_of_writeHiLoWords (runs : exec i s = s.writeHiLoWords words x y)
    (guard : words = true ↔ p) (fails : ¬p) : UndefinesHiLo i s :=
  undefinesHiLo_of_undefHiLo hiFree loFree (runs.trans (if_neg (mt guard.mp fails)))

end

end Sys2Proof.Machine
end

section
/-! PROOFS. The moves from and to HI and LO, and the multiplies (41_cpu_alu.md R301, R302, R305, R306, R309 to
R312): the two halves of the exact product. -/

namespace Sys2Proof.Machine

open Sys2Proof

variable {n m k : Nat}

/-! ### Moves -/

/-- Settles O24: each move's one write, and the record MFHI and MFLO start after the ending. -/
theorem hiLoMoves : Obligations.HiLoMoves := by
  intro s r
  have unchanged {w : Footprint} (bytes : w.bytes = []) : Frame s s w := .refl bytes
  have written (v : Word) : Frame s (s.setX r v).complete { gprs := [r] } :=
    ((unchanged rfl).setX v List.mem_cons_self).complete
  have held (v : Word) : (s.setX r v).Holds r v := s.setX_holds r v
  have advanced (v : Word) : Advanced s (s.setX r v).complete := by simp [Advanced]
  refine ⟨⟨_, rfl, advanced _, { written _ with }, rfl, ?_, (held _).of_gpr rfl⟩,
    ⟨_, rfl, advanced _, { written _ with }, rfl, ?_, (held _).of_gpr rfl⟩,
    fun free => ?_, fun free => ?_⟩
  · exact congrArg ReadAge.older (State.setX_loRd ..)
  · exact congrArg ReadAge.older (State.setX_hiRd ..)
  · exact completes_of_exec (u := { s with hi := Reg.of (s.x .rs r) }) (if_pos free)
      { unchanged rfl with hi := nofun } rfl rfl rfl rfl
  · exact completes_of_exec (u := { s with lo := Reg.of (s.x .rs r) }) (if_pos free)
      { unchanged rfl with lo := nofun } rfl rfl rfl rfl

/-! ### The halves of a product -/

theorem toInt_halves (p : BitVec (n + m)) (pos : 0 < n) :
    (p.extractLsb' m n).toInt * 2 ^ m + ((p.extractLsb' 0 m).toNat : Int) = p.toInt := by
  have whole : p.extractLsb' m n ++ p.extractLsb' 0 m = p := by
    rw [BitVec.extractLsb'_append_extractLsb'_eq_extractLsb' (by omega), BitVec.extractLsb'_eq_self]
  have nonzero : ¬(n == 0) = true := by simpa using pos.ne'
  rw [← congrArg BitVec.toInt whole, BitVec.toInt_append, if_neg nonzero, mul_comm]

theorem toNat_halves (p : BitVec (n + m)) :
    (p.extractLsb' m n).toNat * 2 ^ m + (p.extractLsb' 0 m).toNat = p.toNat := by
  have high : p.toNat / 2 ^ m < 2 ^ n := Nat.div_lt_of_lt_mul (by rw [← pow_add, add_comm m]; exact p.isLt)
  rw [BitVec.extractLsb'_toNat, BitVec.extractLsb'_toNat, Nat.shiftRight_eq_div_pow, Nat.shiftRight_zero,
    Nat.mod_eq_of_lt high, Nat.div_add_mod']

theorem toInt_product (a b : BitVec k) (pos : 0 < k) :
    (BitVec.ofInt (k + k) (a.toInt * b.toInt)).toInt = a.toInt * b.toInt := by
  have least := BitVec.le_toInt_mul_toInt (x := a) (y := b)
  have greatest := BitVec.toInt_mul_toInt_le (x := a) (y := b)
  have wider : (2 : Int) ^ (k * 2 - 2) < 2 ^ (k + k - 1) := pow_lt_pow_right₀ (by decide) (by omega)
  exact BitVec.toInt_ofInt_eq_self (by omega) (by omega) (by omega)

theorem toNat_product (a b : BitVec k) :
    (BitVec.ofNat (k + k) (a.toNat * b.toNat)).toNat = a.toNat * b.toNat := by
  rw [BitVec.toNat_ofNat, pow_add]
  exact Nat.mod_eq_of_lt (Nat.mul_lt_mul'' a.isLt b.isLt)

theorem toInt_product_halves (a b : BitVec k) (pos : 0 < k) :
    ((BitVec.ofInt (k + k) (a.toInt * b.toInt)).extractLsb' k k).toInt * 2 ^ k +
        (((BitVec.ofInt (k + k) (a.toInt * b.toInt)).extractLsb' 0 k).toNat : Int) =
      a.toInt * b.toInt :=
  (toInt_halves _ pos).trans (toInt_product a b pos)

theorem toNat_product_halves (a b : BitVec k) :
    ((BitVec.ofNat (k + k) (a.toNat * b.toNat)).extractLsb' k k).toNat * 2 ^ k +
        ((BitVec.ofNat (k + k) (a.toNat * b.toNat)).extractLsb' 0 k).toNat =
      a.toNat * b.toNat :=
  (toNat_halves _).trans (toNat_product a b)

/-- Settles O22: the halves of a word product are its sign-extended words, those of a doubleword product
the registers themselves. -/
theorem multiply : Obligations.Multiply := by
  intro s rs rt hiFree loFree
  refine ⟨fun both => ⟨?_, ?_⟩, fun not_both => ⟨?_, ?_⟩,
    writesHiLo_of_writeHiLo hiFree loFree rfl (toInt_product_halves _ _ (by decide)),
    writesHiLo_of_writeHiLo hiFree loFree rfl (toNat_product_halves ..)⟩
  · refine writesHiLo_of_writeHiLoWords hiFree loFree rfl wordOperands_iff both
      ⟨wordValue_wordResult _, wordValue_wordResult _, ?_⟩
    obtain ⟨word_rs, word_rt⟩ := both
    rw [toInt_wordResult, toNat_wordResult_mod, ← toInt_lowWord word_rs, ← toInt_lowWord word_rt]
    exact toInt_product_halves _ _ (by decide)
  · refine writesHiLo_of_writeHiLoWords hiFree loFree rfl wordOperands_iff both
      ⟨wordValue_wordResult _, wordValue_wordResult _, ?_⟩
    rw [toNat_wordResult_mod, toNat_wordResult_mod, ← toNat_lowWord, ← toNat_lowWord]
    exact toNat_product_halves ..
  · exact undefinesHiLo_of_writeHiLoWords hiFree loFree rfl wordOperands_iff not_both
  · exact undefinesHiLo_of_writeHiLoWords hiFree loFree rfl wordOperands_iff not_both

end Sys2Proof.Machine
end

section
/-! PROOFS. The divides (41_cpu_alu.md R303, R304, R307, R308, R313): a quotient truncated toward zero and
its remainder, both within the width but for the one overflow. -/

namespace Sys2Proof.Machine

open Sys2Proof

variable {a b bound : Int} {v : Word}

/-! ### Truncating division -/

theorem tdiv_within (low : -bound ≤ a) (high : a < bound) (nonzero : b ≠ 0)
    (no_overflow : ¬(a = -bound ∧ b = -1)) : -bound ≤ a.tdiv b ∧ a.tdiv b < bound := by
  by_cases unit : b.natAbs = 1
  · rcases Int.natAbs_eq_iff.mp unit with rfl | rfl
    · simp only [Nat.cast_one, Int.tdiv_one]
      exact ⟨low, high⟩
    · have not_least : a ≠ -bound := fun least => no_overflow ⟨least, rfl⟩
      simp only [Nat.cast_one, Int.tdiv_neg, Int.tdiv_one]
      omega
  · have halved : (a.tdiv b).natAbs ≤ a.natAbs / 2 := by
      rw [Int.natAbs_tdiv]
      exact Nat.div_le_div_left (by omega) (by decide)
    omega

/-- The remainder is smaller than the divisor and not larger than the dividend, whose sign it has. -/
theorem tmod_within (nonzero : b ≠ 0) :
    (a.tmod b).natAbs < b.natAbs ∧ (0 ≤ a → 0 ≤ a.tmod b ∧ a.tmod b ≤ a) ∧
      (a ≤ 0 → a ≤ a.tmod b ∧ a.tmod b ≤ 0) := by
  have smaller : (a.tmod b).natAbs < b.natAbs := by
    rw [Int.natAbs_tmod]
    exact Nat.mod_lt _ (by omega)
  have no_larger : (a.tmod b).natAbs ≤ a.natAbs := by
    rw [Int.natAbs_tmod]
    exact Nat.mod_le ..
  have sign_of_nonneg : 0 ≤ a → 0 ≤ a.tmod b := Int.tmod_nonneg b
  have sign_of_nonpos : a ≤ 0 → 0 ≤ -a.tmod b := fun nonpos => by
    rw [← Int.neg_tmod]
    exact Int.tmod_nonneg b (by omega)
  omega

theorem tdiv_tmod_within (low : -bound ≤ a) (high : a < bound) (nonzero : b ≠ 0)
    (no_overflow : ¬(a = -bound ∧ b = -1)) :
    (-bound ≤ a.tdiv b ∧ a.tdiv b < bound) ∧ -bound ≤ a.tmod b ∧ a.tmod b < bound := by
  obtain ⟨-, nonneg, nonpos⟩ := tmod_within (a := a) nonzero
  exact ⟨tdiv_within low high nonzero no_overflow, by omega⟩

theorem toInt_ofInt_double {x : Int} (fits : -2 ^ 63 ≤ x ∧ x < 2 ^ 63) :
    (BitVec.ofInt 64 x).toInt = x := BitVec.toInt_ofInt_eq_self (by decide) fits.1 fits.2

/-- HI holds `h` and LO holds `l` after a signed division of `a` by `b` (41_cpu_alu.md R303, R307). -/
def DividesSigned (a b h l : Word) : Prop :=
  a.toInt = l.toInt * b.toInt + h.toInt ∧ h.toInt.natAbs < b.toInt.natAbs ∧
    (h ≠ 0 → (h.toInt < 0 ↔ a.toInt < 0))

theorem dividesSigned_of {a b h l : Word} (nonzero : b.toInt ≠ 0)
    (remainder : h.toInt = a.toInt.tmod b.toInt) (quotient : l.toInt = a.toInt.tdiv b.toInt) :
    DividesSigned a b h l := by
  obtain ⟨smaller, nonneg, nonpos⟩ := tmod_within (a := a.toInt) nonzero
  rw [DividesSigned, remainder, quotient, add_comm]
  refine ⟨(Int.tmod_add_tdiv_mul ..).symm, smaller, fun some_left => ?_⟩
  have not_exact : a.toInt.tmod b.toInt ≠ 0 := fun exact_division =>
    some_left (BitVec.eq_of_toInt_eq (remainder.trans exact_division))
  omega

theorem unsignedDivision {k : Nat} {x y : BitVec k} (nonzero : y ≠ 0) :
    x.toNat = (BitVec.ofNat k (x.toNat / y.toNat)).toNat * y.toNat +
        (BitVec.ofNat k (x.toNat % y.toNat)).toNat ∧
      (BitVec.ofNat k (x.toNat % y.toNat)).toNat < y.toNat := by
  have positive : 0 < y.toNat := Nat.pos_of_ne_zero fun zero => nonzero (BitVec.eq_of_toNat_eq zero)
  have smaller := Nat.mod_lt x.toNat positive
  rw [BitVec.toNat_ofNat, BitVec.toNat_ofNat, Nat.mod_eq_of_lt (smaller.trans y.isLt),
    Nat.mod_eq_of_lt ((Nat.div_le_self ..).trans_lt x.isLt)]
  exact ⟨(Nat.div_add_mod' ..).symm, smaller⟩

/-! ### Operands -/

theorem toInt_ne_zero (nonzero : v ≠ 0) : v.toInt ≠ 0 := fun zero =>
  nonzero (BitVec.eq_of_toInt_eq zero)

theorem lowWord_ne_zero (word : WordValue v) (nonzero : v ≠ 0) : lowWord v ≠ 0 := fun zero =>
  toInt_ne_zero nonzero ((toInt_lowWord word).symm.trans (congrArg BitVec.toInt zero))

/-! ### The instructions, with a result and without -/

section

variable {s : State} {rs rt : RegNum}

/-- The divisions without a result (41_cpu_alu.md R313): a zero divisor, or the overflow. -/
theorem exec_div_undefined
    (h : s.x .rt rt = 0 ∨ (s.x .rs rs).toInt = -2 ^ 31 ∧ (s.x .rt rt).toInt = -1) :
    exec (.div rs rt) s = s.undefHiLo := by
  refine if_pos ?_
  rcases h with zero | ⟨least, minus_one⟩
  · rw [zero]
    exact .inl rfl
  · have word_rs : WordValue (s.x .rs rs) := by rw [WordValue, least]; decide
    have word_rt : WordValue (s.x .rt rt) := by rw [WordValue, minus_one]; decide
    rw [toInt_lowWord word_rs, toInt_lowWord word_rt]
    exact .inr ⟨least, minus_one⟩

/-- On word values DIV divides the registers as integers (41_cpu_alu.md R303). -/
theorem exec_div_defined (word_rs : WordValue (s.x .rs rs)) (word_rt : WordValue (s.x .rt rt))
    (divisor : (s.x .rt rt).toInt ≠ 0)
    (no_overflow : ¬((s.x .rs rs).toInt = -2 ^ 31 ∧ (s.x .rt rt).toInt = -1)) :
    exec (.div rs rt) s = s.writeHiLoWords (s.wordOperands rs rt)
      (BitVec.ofInt 32 ((s.x .rs rs).toInt.tmod (s.x .rt rt).toInt))
      (BitVec.ofInt 32 ((s.x .rs rs).toInt.tdiv (s.x .rt rt).toInt)) := by
  have defined := not_or.mpr ⟨divisor, no_overflow⟩
  rw [← toInt_lowWord word_rs, ← toInt_lowWord word_rt] at defined ⊢
  exact if_neg defined

theorem exec_ddiv_undefined
    (h : s.x .rt rt = 0 ∨ (s.x .rs rs).toInt = -2 ^ 63 ∧ (s.x .rt rt).toInt = -1) :
    exec (.ddiv rs rt) s = s.undefHiLo :=
  if_pos (h.imp_left fun zero => congrArg BitVec.toInt zero)

theorem exec_divu_undefined (zero : s.x .rt rt = 0) : exec (.divu rs rt) s = s.undefHiLo :=
  if_pos (congrArg lowWord zero)

theorem exec_ddivu_undefined (zero : s.x .rt rt = 0) : exec (.ddivu rs rt) s = s.undefHiLo :=
  if_pos zero

variable (hiFree : s.hiRd = .none) (loFree : s.loRd = .none)

include hiFree loFree

/-- Without word values a word divide leaves `UNDEF_64` whatever the low words are (41_cpu_alu.md R260). -/
theorem div_without_words (not_both : ¬(WordValue (s.x .rs rs) ∧ WordValue (s.x .rt rt))) :
    UndefinesHiLo (.div rs rt) s ∧ UndefinesHiLo (.divu rs rt) s := by
  have fails : s.wordOperands rs rt ≠ true := mt wordOperands_iff.mp not_both
  have undefined {h l : BitVec 32} : s.writeHiLoWords (s.wordOperands rs rt) h l = s.undefHiLo := if_neg fails
  exact ⟨undefinesHiLo_of_undefHiLo hiFree loFree (ite_eq_iff'.mpr ⟨fun _ => rfl, fun _ => undefined⟩),
    undefinesHiLo_of_undefHiLo hiFree loFree (ite_eq_iff'.mpr ⟨fun _ => rfl, fun _ => undefined⟩)⟩

theorem div_writes (word_rs : WordValue (s.x .rs rs)) (word_rt : WordValue (s.x .rt rt))
    (nonzero : s.x .rt rt ≠ 0)
    (no_overflow : ¬((s.x .rs rs).toInt = -2 ^ 31 ∧ (s.x .rt rt).toInt = -1)) :
    WritesHiLo (.div rs rt) s (DividesSigned (s.x .rs rs) (s.x .rt rt)) := by
  have divisor := toInt_ne_zero nonzero
  obtain ⟨quotient, remainder⟩ := tdiv_tmod_within word_rs.1 word_rs.2 divisor no_overflow
  exact writesHiLo_of_writeHiLoWords hiFree loFree (exec_div_defined word_rs word_rt divisor no_overflow)
    wordOperands_iff ⟨word_rs, word_rt⟩ (dividesSigned_of divisor (toInt_wordResult_ofInt remainder)
      (toInt_wordResult_ofInt quotient))

theorem ddiv_writes (nonzero : s.x .rt rt ≠ 0)
    (no_overflow : ¬((s.x .rs rs).toInt = -2 ^ 63 ∧ (s.x .rt rt).toInt = -1)) :
    WritesHiLo (.ddiv rs rt) s (DividesSigned (s.x .rs rs) (s.x .rt rt)) := by
  have divisor := toInt_ne_zero nonzero
  obtain ⟨quotient, remainder⟩ := tdiv_tmod_within (BitVec.le_toInt (s.x .rs rs)) BitVec.toInt_lt divisor
    no_overflow
  exact writesHiLo_of_writeHiLo hiFree loFree (if_neg (not_or.mpr ⟨divisor, no_overflow⟩))
    (dividesSigned_of divisor (toInt_ofInt_double remainder) (toInt_ofInt_double quotient))

theorem divu_writes (word_rs : WordValue (s.x .rs rs)) (word_rt : WordValue (s.x .rt rt))
    (nonzero : s.x .rt rt ≠ 0) :
    WritesHiLo (.divu rs rt) s (fun h l => WordValue h ∧ WordValue l ∧
      (s.x .rs rs).toNat % 2 ^ 32 =
        l.toNat % 2 ^ 32 * ((s.x .rt rt).toNat % 2 ^ 32) + h.toNat % 2 ^ 32 ∧
      h.toNat % 2 ^ 32 < (s.x .rt rt).toNat % 2 ^ 32) := by
  have divisor := lowWord_ne_zero word_rt nonzero
  refine writesHiLo_of_writeHiLoWords hiFree loFree (if_neg divisor) wordOperands_iff ⟨word_rs, word_rt⟩
    ⟨wordValue_wordResult _, wordValue_wordResult _, ?_⟩
  rw [toNat_wordResult_mod, toNat_wordResult_mod, ← toNat_lowWord, ← toNat_lowWord]
  exact unsignedDivision divisor

theorem ddivu_writes (nonzero : s.x .rt rt ≠ 0) :
    WritesHiLo (.ddivu rs rt) s (fun h l =>
      (s.x .rs rs).toNat = l.toNat * (s.x .rt rt).toNat + h.toNat ∧ h.toNat < (s.x .rt rt).toNat) :=
  writesHiLo_of_writeHiLo hiFree loFree (if_neg nonzero) (unsignedDivision nonzero)

end

/-- Settles O23: each divide with a result, then the divisions that leave none. -/
theorem divide : Obligations.Divide := by
  intro s rs rt hiFree loFree
  refine ⟨div_writes hiFree loFree, divu_writes hiFree loFree, ddiv_writes hiFree loFree,
    ddivu_writes hiFree loFree, fun zero => ⟨?_, ?_, ?_, ?_⟩, fun least minus_one => ?_,
    fun least minus_one => ?_, div_without_words hiFree loFree⟩
  · exact undefinesHiLo_of_undefHiLo hiFree loFree (exec_div_undefined (.inl zero))
  · exact undefinesHiLo_of_undefHiLo hiFree loFree (exec_divu_undefined zero)
  · exact undefinesHiLo_of_undefHiLo hiFree loFree (exec_ddiv_undefined (.inl zero))
  · exact undefinesHiLo_of_undefHiLo hiFree loFree (exec_ddivu_undefined zero)
  · exact undefinesHiLo_of_undefHiLo hiFree loFree (exec_div_undefined (.inr ⟨least, minus_one⟩))
  · exact undefinesHiLo_of_undefHiLo hiFree loFree (exec_ddiv_undefined (.inr ⟨least, minus_one⟩))

end Sys2Proof.Machine
end

section
/-! PROOFS. Words the spec writes out (41_cpu_alu.md R262, R271, R301, R303, 30_encoding.md R168,
43_cpu_misc.md R403): each is the encoding of the instruction it is said to be. -/

namespace Sys2Proof

theorem decode_of_encode {w : BitVec 32} {i : Instr} (h : encode i = w) : decode w = .ok i :=
  h ▸ decode_encode i

/-- Settles O9: encoding is evaluated, and decoding is its inverse. -/
theorem specWordsDecode : Obligations.SpecWordsDecode :=
  ⟨decode_of_encode (by decide), decode_of_encode (by decide), decode_of_encode (by decide),
    decode_of_encode (by decide), decode_of_encode (by decide), decode_of_encode (by decide)⟩

end Sys2Proof
end

section
/-! PROOFS. How the program counters move (10_state.md R34, 42_cpu_jump_branch.md R340): no update before the
ending touches `npc`, and the ending of a jump or branch differs from every other. -/

namespace Sys2Proof.Machine

open Sys2Proof

variable {i : Instr} {s t : State}

theorem Update.npc_eq (h : Update i s t) : t.npc = s.npc := by
  cases h with
  | gpr => exact State.putX_npc ..
  | tag => exact State.setTag_npc ..
  | hi | lo | unlink | link | fgr | fcsr | byte | undefByte => rfl

theorem Updates.npc_eq (h : Updates i s t) : t.npc = s.npc :=
  h.keeps (P := fun v => v.npc = s.npc) (fun _ _ update => update.npc_eq.trans) rfl

theorem Ends.advanced (h : Ends i s t) (sequential : i.isJump = false) : Advanced s t := by
  cases h with
  | complete | readHi | readLo => exact ⟨rfl, rfl, rfl⟩
  | jump jumps | likely jumps => simp [sequential] at jumps

/-- A jump or branch goes into its delay slot; only a branch likely that is not taken goes over it. -/
theorem Ends.into_or_over_slot (h : Ends i s t) (jumps : i.isJump = true) :
    (t.bd = true ∧ t.pc = s.npc) ∨ (t.bd = false ∧ t.pc = s.npc + 4 ∧ t.npc = s.npc + 8) := by
  cases h with
  | complete plain => simp [Instr.isPlain, jumps] at plain
  | readHi reader | readLo reader =>
    obtain ⟨rd, rfl⟩ := reader
    cases jumps
  | jump => exact .inl ⟨rfl, rfl⟩
  | likely _ taken =>
    cases taken
    · exact .inr ⟨rfl, rfl, rfl⟩
    · exact .inl ⟨rfl, rfl⟩

/-- Settles O11, from how any instruction's effect ends. -/
theorem programCountersMove : Obligations.ProgramCountersMove := by
  intro i s t _ executed untrapped
  cases exec_effect executed with
  | raised | raisedFp => cases untrapped
  | ended updates ends =>
    split
    · next jumps =>
      rw [← updates.npc_eq]
      exact ends.into_or_over_slot jumps
    · next sequential =>
      obtain ⟨pc, npc, bd⟩ := ends.advanced (Bool.eq_false_iff.mpr sequential)
      rw [updates.npc_eq] at pc npc
      exact ⟨pc, npc, bd⟩

end Sys2Proof.Machine
end

section
/-! SUPPORT. How a jump or branch completes outside a delay slot (42_cpu_jump_branch.md R340): the guards it
passes, its target, its condition, and its two endings. -/

namespace Sys2Proof.Machine

open Sys2Proof

variable {i : Instr} {s u : State} {w : Footprint} {p : Prop} {b : Bool}
  {target : Word} {r rs : RegNum} {k : Result}

/-! ### Guards (42_cpu_jump_branch.md R342) -/

theorem State.branch_passes (outside : s.bd = false) : s.branch k = k :=
  if_neg (Bool.eq_false_iff.mp outside)

theorem State.branch_refuses (slot : s.bd = true) : s.branch k = .refused .branchInDelaySlot :=
  if_pos slot

theorem linkCheck_passes (other : rs ≠ 31) : linkCheck rs k = k := if_neg other

theorem linkCheck_refuses (link : rs = 31) : linkCheck rs k = .refused .linkRegister31 :=
  if_pos link

theorem execJalr_of_ne (apart : r ≠ rs) :
    execJalr r rs s = s.branch (.next ((s.link r).jumpTo true (s.x .rs rs))) := if_neg apart

/-! ### Targets (42_cpu_jump_branch.md R341) -/

theorem toNat_append_eq_add {m n : Nat} (x : BitVec m) (y : BitVec n) :
    (x ++ y).toNat = x.toNat * 2 ^ n + y.toNat := by
  rw [BitVec.toNat_append, ← Nat.shiftLeft_add_eq_or_of_lt y.isLt, Nat.shiftLeft_eq]

theorem State.toNat_regionTarget (s : State) (index : BitVec 26) :
    (s.regionTarget index).toNat = (s.pc + 4).toNat / 2 ^ 28 * 2 ^ 28 + index.toNat * 4 := by
  have region : ((s.pc + 4).extractLsb' 28 36).toNat = (s.pc + 4).toNat / 2 ^ 28 := by
    rw [BitVec.extractLsb'_toNat, Nat.shiftRight_eq_div_pow]
    exact Nat.mod_eq_of_lt (by omega)
  rw [State.regionTarget, toNat_append_eq_add, toNat_append_eq_add, region, BitVec.toNat_ofNat]
  omega

theorem State.toInt_branchTarget (s : State) (offset : BitVec 16) :
    (s.branchTarget offset).toInt = (s.pc.toInt + 4 + 4 * offset.toInt).bmod (2 ^ 64) := by
  have displacement : ((offset ++ 0#2).signExtend 64).toInt = 4 * offset.toInt := by
    rw [BitVec.toInt_signExtend_of_le (by decide), BitVec.toInt_append_zero]
    rfl
  rw [State.branchTarget, BitVec.toInt_add, BitVec.toInt_add, displacement, Int.bmod_add_bmod]
  rfl

/-! ### Conditions -/

theorem not_decides (h : b = true ↔ p) : (!b) = true ↔ ¬p := Bool.not_iff_not.trans (not_congr h)

theorem State.sameX_iff (s : State) (rs rt : RegNum) :
    s.sameX rs rt = true ↔ (s.x .rs rs).toInt = (s.x .rt rt).toInt :=
  beq_iff_eq.trans BitVec.toInt_inj.symm

theorem State.isNeg_iff (s : State) (rs : RegNum) : s.isNeg rs = true ↔ (s.x .rs rs).toInt < 0 := by
  rw [State.isNeg, BitVec.msb_eq_toInt, decide_eq_true_iff]

theorem State.isZeroX_iff (s : State) (rs : RegNum) :
    s.isZeroX rs = true ↔ (s.x .rs rs).toInt = 0 :=
  beq_iff_eq.trans BitVec.toInt_inj.symm

theorem State.not_isNeg_iff (s : State) (rs : RegNum) :
    (!s.isNeg rs) = true ↔ (s.x .rs rs).toInt ≥ 0 :=
  (not_decides (s.isNeg_iff rs)).trans not_lt

theorem State.isNeg_or_isZeroX_iff (s : State) (rs : RegNum) :
    (s.isNeg rs || s.isZeroX rs) = true ↔ (s.x .rs rs).toInt ≤ 0 := by
  rw [Bool.or_eq_true, s.isNeg_iff, s.isZeroX_iff, le_iff_lt_or_eq]

theorem State.not_isNeg_and_not_isZeroX_iff (s : State) (rs : RegNum) :
    (!s.isNeg rs && !s.isZeroX rs) = true ↔ (s.x .rs rs).toInt > 0 := by
  rw [← Bool.not_or, not_decides (s.isNeg_or_isZeroX_iff rs), not_le]

/-! ### The endings -/

theorem Frame.jumpTo (h : Frame s u w) (b : Bool) (target : Word) : Frame s (u.jumpTo b target) w :=
  { h with }

theorem Frame.jumpLikely (h : Frame s u w) (b : Bool) (target : Word) :
    Frame s (u.jumpLikely b target) w := by
  cases b
  · exact { h with }
  · exact h.jumpTo true target

theorem Frame.link (s : State) (r : RegNum) : Frame s (s.link r) { gprs := [r] } :=
  (Frame.refl rfl).setX _ List.mem_cons_self

theorem State.link_holds (s : State) (r : RegNum) : (s.link r).Holds r (s.pc + 8) :=
  s.setX_holds r _

theorem State.jumpTo_jumped [Decidable p] (s : State) (decides : b = true ↔ p) (target : Word) :
    Jumped s (s.jumpTo b target) p target :=
  ⟨rfl, if_congr decides rfl rfl, rfl⟩

theorem State.jumpLikely_jumpedLikely [Decidable p] (s : State) (decides : b = true ↔ p)
    (target : Word) : JumpedLikely s (s.jumpLikely b target) p target := by
  unfold JumpedLikely
  split
  · next taken =>
    rw [decides.mpr taken]
    exact ⟨rfl, rfl, rfl⟩
  · next not_taken =>
    rw [Bool.eq_false_iff.mpr (mt decides.mp not_taken)]
    exact ⟨rfl, rfl, rfl⟩

section

variable [Decidable p] (outside : s.bd = false)

include outside

theorem branches_of_jumpTo (runs : exec i s = s.branch (.next (s.jumpTo b target)))
    (decides : b = true ↔ p) : Branches i s p target {} fun _ => True :=
  ⟨_, runs.trans (State.branch_passes outside), s.jumpTo_jumped decides target, ⟨rfl, rfl⟩,
    (Frame.refl rfl).jumpTo b target, trivial⟩

theorem branches_of_link_jumpTo (runs : exec i s = s.branch (.next ((s.link r).jumpTo b target)))
    (decides : b = true ↔ p) :
    Branches i s p target { gprs := [r] } fun t => t.Holds r (s.pc + 8) := by
  have jumped := (s.link r).jumpTo_jumped decides target
  rw [Jumped, State.link_npc] at jumped
  have aged : Aged s ((s.link r).jumpTo b target) :=
    ⟨congrArg ReadAge.older (s.link_hiRd r), congrArg ReadAge.older (s.link_loRd r)⟩
  exact ⟨_, runs.trans (State.branch_passes outside), jumped, aged, (Frame.link s r).jumpTo b target,
    (s.link_holds r).of_gpr rfl⟩

theorem branchesLikely_of_jumpLikely (runs : exec i s = s.branch (.next (s.jumpLikely b target)))
    (decides : b = true ↔ p) : BranchesLikely i s p target {} fun _ => True :=
  ⟨_, runs.trans (State.branch_passes outside), s.jumpLikely_jumpedLikely decides target,
    ⟨State.jumpLikely_hiRd .., State.jumpLikely_loRd ..⟩, (Frame.refl rfl).jumpLikely b target, trivial⟩

theorem branchesLikely_of_link_jumpLikely
    (runs : exec i s = s.branch (.next ((s.link r).jumpLikely b target))) (decides : b = true ↔ p) :
    BranchesLikely i s p target { gprs := [r] } fun t => t.Holds r (s.pc + 8) := by
  have jumped := (s.link r).jumpLikely_jumpedLikely decides target
  rw [JumpedLikely, State.link_npc] at jumped
  have aged : Aged s ((s.link r).jumpLikely b target) := by
    rw [Aged, State.jumpLikely_hiRd, State.jumpLikely_loRd, State.link_hiRd, State.link_loRd]
    exact ⟨rfl, rfl⟩
  exact ⟨_, runs.trans (State.branch_passes outside), jumped, aged,
    (Frame.link s r).jumpLikely b target, (s.link_holds r).of_gpr (State.jumpLikely_gpr ..)⟩

end

end Sys2Proof.Machine
end

section
/-! PROOFS. The jumps and branches outside a delay slot (42_cpu_jump_branch.md R343 to R362,
47_fpu_convert_move_branch.md R580 to R583), and what R342 forbids. -/

namespace Sys2Proof.Machine

open Sys2Proof

variable {i : Instr} {s : State}

/-- Settles O36: each jump is taken; JAL and JALR write the link first. -/
theorem jumps : Obligations.Jumps := by
  intro s index rd rs target outside region
  obtain rfl : target = s.regionTarget index :=
    BitVec.eq_of_toNat_eq (region.trans (s.toNat_regionTarget index).symm)
  have always : true = true ↔ True := iff_of_true rfl trivial
  exact ⟨branches_of_jumpTo outside rfl always, branches_of_link_jumpTo outside rfl always,
    branches_of_jumpTo outside rfl always,
    fun apart => branches_of_link_jumpTo outside (execJalr_of_ne apart) always⟩

/-- Settles O37: each branch's condition, and the guard before those that link and those of the FPU. -/
theorem ordinaryBranches : Obligations.OrdinaryBranches := by
  rintro s rs rt cc offset target _ _ outside displaced rfl rfl
  obtain rfl : target = s.branchTarget offset :=
    BitVec.eq_of_toInt_eq (displaced.trans (s.toInt_branchTarget offset).symm)
  refine ⟨?beq, ?bne, ?blez, ?bgtz, ?bltz, ?bgez, fun other => ⟨?bltzal, ?bgezal⟩,
    fun usable => ⟨?bc1f, ?bc1t⟩⟩
  case beq => exact branches_of_jumpTo outside rfl (s.sameX_iff rs rt)
  case bne => exact branches_of_jumpTo outside rfl (not_decides (s.sameX_iff rs rt))
  case blez => exact branches_of_jumpTo outside rfl (s.isNeg_or_isZeroX_iff rs)
  case bgtz => exact branches_of_jumpTo outside rfl (s.not_isNeg_and_not_isZeroX_iff rs)
  case bltz => exact branches_of_jumpTo outside rfl (s.isNeg_iff rs)
  case bgez => exact branches_of_jumpTo outside rfl (s.not_isNeg_iff rs)
  case bltzal => exact branches_of_link_jumpTo outside (linkCheck_passes other) (s.isNeg_iff rs)
  case bgezal => exact branches_of_link_jumpTo outside (linkCheck_passes other) (s.not_isNeg_iff rs)
  case bc1f =>
    exact branches_of_jumpTo outside (State.withCu1_usable usable) (Bool.not_eq_true' _).to_iff
  case bc1t => exact branches_of_jumpTo outside (State.withCu1_usable usable) Iff.rfl

/-- Settles O38: the conditions and guards of the ordinary branches, with the ending that skips the slot. -/
theorem likelyBranches : Obligations.LikelyBranches := by
  rintro s rs rt cc offset target _ _ outside displaced rfl rfl
  obtain rfl : target = s.branchTarget offset :=
    BitVec.eq_of_toInt_eq (displaced.trans (s.toInt_branchTarget offset).symm)
  refine ⟨?beql, ?bnel, ?blezl, ?bgtzl, ?bltzl, ?bgezl, fun other => ⟨?bltzall, ?bgezall⟩,
    fun usable => ⟨?bc1fl, ?bc1tl⟩⟩
  case beql => exact branchesLikely_of_jumpLikely outside rfl (s.sameX_iff rs rt)
  case bnel => exact branchesLikely_of_jumpLikely outside rfl (not_decides (s.sameX_iff rs rt))
  case blezl => exact branchesLikely_of_jumpLikely outside rfl (s.isNeg_or_isZeroX_iff rs)
  case bgtzl => exact branchesLikely_of_jumpLikely outside rfl (s.not_isNeg_and_not_isZeroX_iff rs)
  case bltzl => exact branchesLikely_of_jumpLikely outside rfl (s.isNeg_iff rs)
  case bgezl => exact branchesLikely_of_jumpLikely outside rfl (s.not_isNeg_iff rs)
  case bltzall =>
    exact branchesLikely_of_link_jumpLikely outside (linkCheck_passes other) (s.isNeg_iff rs)
  case bgezall =>
    exact branchesLikely_of_link_jumpLikely outside (linkCheck_passes other) (s.not_isNeg_iff rs)
  case bc1fl =>
    exact branchesLikely_of_jumpLikely outside (State.withCu1_usable usable) (Bool.not_eq_true' _).to_iff
  case bc1tl => exact branchesLikely_of_jumpLikely outside (State.withCu1_usable usable) Iff.rfl

/-! ### Restrictions (42_cpu_jump_branch.md R342) -/

/-- An instruction with one of coprocessor 1's opcodes uses it (60_exceptions.md R606). -/
theorem Instr.usesCop1_of_primary
    (opcode : [0x11#6, 0x13#6, 0x31#6, 0x35#6, 0x39#6, 0x3d#6].contains (Laws.Opcode.primary i) = true) :
    i.usesCop1 = true := by
  unfold Instr.usesCop1
  split
  · rfl
  · rfl
  · rwa [opF_encode]

/-- Behind the guards that come first, every jump and branch refuses to run in a delay slot. -/
theorem exec_jump_in_slot (jumps : i.isJump = true) (formed : i.WellFormed = true) (slot : s.bd = true)
    (usable : i.usesCop1 = true → s.cfg.cu1 = true) : exec i s = .refused .branchInDelaySlot := by
  cases i with
  | j | jal | jr | beq | bne | blez | bgtz | beql | bnel | blezl | bgtzl | bltz | bgez | bltzl | bgezl =>
    exact State.branch_refuses slot
  | jalr => exact (execJalr_of_ne (bne_iff_ne.mp formed)).trans (State.branch_refuses slot)
  | bltzal | bgezal | bltzall | bgezall =>
    exact (linkCheck_passes (bne_iff_ne.mp formed)).trans (State.branch_refuses slot)
  | bc1f | bc1t | bc1fl | bc1tl =>
    have cu1 : s.cfg.cu1 = true := usable (Instr.usesCop1_of_primary rfl)
    exact (State.withCu1_usable cu1).trans (State.branch_refuses slot)
  | _ => cases jumps

/-- A branch that writes its link to GPR 31 may not test GPR 31. -/
theorem exec_linking_refused {rs : RegNum} {offset : BitVec 16}
    (linking : i ∈ [.bltzal rs offset, .bgezal rs offset, .bltzall rs offset, .bgezall rs offset])
    (tests_link : rs = 31) : exec i s = .refused .linkRegister31 := by
  simp only [List.mem_cons, List.not_mem_nil, or_false] at linking
  rcases linking with rfl | rfl | rfl | rfl <;> exact linkCheck_refuses tests_link

/-- Settles O39: the delay slot, then the two restrictions on the registers. -/
theorem branchRestrictions : Obligations.BranchRestrictions :=
  ⟨fun _ _ => exec_jump_in_slot, fun _ _ => if_pos rfl, fun _ _ _ linking =>
    exec_linking_refused linking rfl⟩

end Sys2Proof.Machine
end

section
/-! PROOFS. The exception instructions (43_cpu_misc.md R380 to R393, R404): a trap by its comparison, which is
between two registers or a register and the sign-extended immediate. -/

namespace Sys2Proof.Machine

open Sys2Proof

variable {i : Instr} {s : State} {b : Bool} {p : Prop}

/-- The two ways a conditional trap ends. -/
theorem traps_of_trapIf (runs : exec i s = s.trapIf b) (decides : b = true ↔ p) :
    (p → Raises i s .trap) ∧ (¬p → Completes i s {} fun _ => True) :=
  ⟨fun holds => raises_of_exec (runs.trans (if_pos (decides.mpr holds))),
    fun fails => completes_of_exec (runs.trans (if_neg (mt decides.mp fails))) (Frame.refl rfl) trivial
      rfl rfl rfl⟩

/-! ### Comparisons -/

theorem not_slt_iff (a b : Word) : (!a.slt b) = true ↔ a.toInt ≥ b.toInt :=
  (not_decides BitVec.slt_iff_toInt_lt).trans not_lt

theorem not_ult_iff (a b : Word) : (!a.ult b) = true ↔ a.toNat ≥ b.toNat :=
  (not_decides BitVec.ult_iff_toNat_lt).trans not_lt

theorem beq_iff_toInt_eq (a b : Word) : (a == b) = true ↔ a.toInt = b.toInt :=
  beq_iff_eq.trans BitVec.toInt_inj.symm

theorem bne_iff_toInt_ne (a b : Word) : (a != b) = true ↔ a.toInt ≠ b.toInt :=
  not_decides (beq_iff_toInt_eq a b)

/-- Settles O40: the immediate forms compare with the immediate extended to a doubleword, which has its value
as an integer. -/
theorem exceptionInstructions : Obligations.ExceptionInstructions := by
  rintro s rs rt code' code imm _ _ c _ _ w rfl rfl signed rfl rfl unsigned
  obtain rfl : c = (imm.signExtend 64).toInt := signed.trans (toInt_signExtend_imm imm).symm
  obtain rfl : w = (imm.signExtend 64).toNat := unsigned
  refine ⟨raises_of_exec rfl, raises_of_exec rfl, ?tge, ?tgeu, ?tlt, ?tltu, ?teq, ?tne, ?tgei, ?tgeiu,
    ?tlti, ?tltiu, ?teqi, ?tnei⟩
  case tge | tgei => exact traps_of_trapIf rfl (not_slt_iff ..)
  case tgeu | tgeiu => exact traps_of_trapIf rfl (not_ult_iff ..)
  case tlt | tlti => exact traps_of_trapIf rfl BitVec.slt_iff_toInt_lt
  case tltu | tltiu => exact traps_of_trapIf rfl BitVec.ult_iff_toNat_lt
  case teq | teqi => exact traps_of_trapIf rfl (beq_iff_toInt_eq ..)
  case tne | tnei => exact traps_of_trapIf rfl (bne_iff_toInt_ne ..)

end Sys2Proof.Machine
end

section
/-! PROOFS. The conditional moves of general registers, SYNC and the prefetches (43_cpu_misc.md R394 to R399,
45_fpu_transfer.md R478). -/

namespace Sys2Proof.Machine

open Sys2Proof

variable {i : Instr} {s : State} {b : Bool} {p : Prop} {r : RegNum} {v : Word}

/-- The two ways a conditional move ends. -/
theorem moves_of_setX_if (runs : exec i s = .next (if b then s.setX r v else s).complete)
    (decides : b = true ↔ p) :
    (p → WritesX i s r fun w => w = v) ∧ (¬p → Completes i s {} fun _ => True) := by
  refine ⟨fun holds => ?_, fun fails => ?_⟩
  · rw [if_pos (decides.mpr holds)] at runs
    exact writesX_of_writeX runs rfl
  · rw [if_neg (mt decides.mp fails)] at runs
    exact completes_of_exec runs (Frame.refl rfl) trivial rfl rfl rfl

/-- A prefetch may only leave LLbit open (40_cpu_load_store.md R226). -/
theorem completes_of_disturbLink (runs : exec i s = .next s.disturbLink.complete) :
    Completes i s { llBit := s.llBit } fun _ => True :=
  completes_of_exec runs ((Frame.refl rfl).disturbLink id) trivial (State.disturbLink_npc s)
    (State.disturbLink_hiRd s) (State.disturbLink_loRd s)

/-- Settles O41: each move's condition, and the guard before the instructions of coprocessor 1. -/
theorem conditionalMovesSyncAndPrefetch : Obligations.ConditionalMovesSyncAndPrefetch := by
  intro s rd rs rt cc n offset
  refine ⟨?movn, ?movz, ?sync, ?pref, fun usable => ⟨?movf, ?movt, ?prefx⟩⟩
  case movn => exact moves_of_setX_if rfl bne_iff_ne
  case movz => exact moves_of_setX_if rfl beq_iff_eq
  case sync => exact completes_of_exec (u := s) rfl (Frame.refl rfl) trivial rfl rfl rfl
  case pref => exact completes_of_disturbLink rfl
  case movf => exact moves_of_setX_if (State.withCu1_usable usable) (Bool.not_eq_true' _).to_iff
  case movt => exact moves_of_setX_if (State.withCu1_usable usable) Iff.rfl
  case prefx => exact completes_of_disturbLink (State.withCu1_usable usable)

end Sys2Proof.Machine
end

section
/-! PROOFS. The classes of coprocessors 0 and 2 (43_cpu_misc.md R401 to R403, 40_cpu_load_store.md R227 to
R230, log 28): the unit, the offset, the access, and the refusal of what the spec does not describe. -/

namespace Sys2Proof.Machine

open Sys2Proof

variable {i : Instr} {s : State} {va : Word} {n : Nat} {as : List Nat} {k : Result}

/-! ### Coprocessor 2's unit -/

theorem State.withCu2_usable (h : s.cfg.cu2 = true) : s.withCu2 k = k := if_pos h

theorem State.withCu2_unusable (h : s.cfg.cu2 = false) :
    s.withCu2 k = .next (s.raise (.coprocessorUnusable 2)) :=
  if_neg (Bool.eq_false_iff.mp h)

/-- The instructions with one of coprocessor 2's opcodes look at the unit first (43_cpu_misc.md R401). -/
theorem exec_cop2_unusable (uses : i.usesCop2 = true) (cu2 : s.cfg.cu2 = false) :
    exec i s = .next (s.raise (.coprocessorUnusable 2)) := by
  rw [Instr.usesCop2, opF_encode] at uses
  cases i with
  | cop2 | lwc2 | ldc2 | swc2 | sdc2 => exact State.withCu2_unusable cu2
  | _ => cases uses

/-! ### Its accesses -/

theorem loadCop2_raises (runs : exec i s = s.loadCop2 va n) : AccessRaises i s va n .load := by
  unfold State.loadCop2 at runs
  refine accessRaises_of (fun misaligned => ?_) fun e low fails => ?_
  · rw [runs, State.memRead_misaligned misaligned]
  · rw [runs, State.memRead_error low fails]

theorem storeCop2_raises (runs : exec i s = s.storeCop2 va n) : AccessRaises i s va n .store := by
  unfold State.storeCop2 at runs
  refine accessRaises_of (fun misaligned => ?_) fun e low fails => ?_
  · rw [runs, aligned_eq_false misaligned]
    rfl
  · rw [runs, if_pos ((aligned_iff va n).mpr low), fails]

theorem State.loadCop2_refuses (low : va.toNat % n = 0) (located : s.locate va va n .load = .ok as) :
    s.loadCop2 va n = .refused .coprocessor2Undescribed := by
  simp only [State.loadCop2, State.memRead_located low located]

theorem State.storeCop2_refuses (low : va.toNat % n = 0) (located : s.locate va va n .store = .ok as) :
    s.storeCop2 va n = .refused .coprocessor2Undescribed := by
  simp only [State.storeCop2, if_pos ((aligned_iff va n).mpr low), located]

/-- A load and a store of one width raise what their access raises, and are refused once it succeeds. -/
theorem cop2_accesses {j : Instr} (loads : exec i s = s.loadCop2 va n)
    (stores : exec j s = s.storeCop2 va n) :
    AccessRaises i s va n .load ∧ AccessRaises j s va n .store ∧
      ∀ as, va.toNat % n = 0 →
        (s.locate va va n .load = .ok as → exec i s = .refused .coprocessor2Undescribed) ∧
        (s.locate va va n .store = .ok as → exec j s = .refused .coprocessor2Undescribed) :=
  ⟨loadCop2_raises loads, storeCop2_raises stores, fun _ low =>
    ⟨fun located => loads.trans (State.loadCop2_refuses low located),
      fun located => stores.trans (State.storeCop2_refuses low located)⟩⟩

/-- Settles O15: the units, then the loads and stores of coprocessor 2 by their offset and their access. -/
theorem coprocessors0And2 : Obligations.Coprocessors0And2 := by
  intro s
  refine ⟨fun f cu0 => raises_of_exec (if_neg (Bool.eq_false_iff.mp cu0)), fun f cu0 => if_pos cu0,
    fun i uses cu2 => raises_of_exec (exec_cop2_unusable uses cu2), fun f => State.withCu2_usable, ?_⟩
  rintro rt base offset _ cu2 rfl
  have usable {k : Result} : s.withCu2 k = k := State.withCu2_usable cu2
  refine ⟨fun not_multiple => ?_, fun not_multiple => ?_, fun multiple => ?_, fun multiple => ?_⟩
  · have refuses {r : Result} : s.withCu2 (offsetCheck offset 2 r) = .refused .offsetField :=
      usable.trans (offsetCheck_refuses not_multiple)
    exact ⟨refuses, refuses⟩
  · have refuses {r : Result} : s.withCu2 (offsetCheck offset 3 r) = .refused .offsetField :=
      usable.trans (offsetCheck_refuses not_multiple)
    exact ⟨refuses, refuses⟩
  · have passes {r : Result} : s.withCu2 (offsetCheck offset 2 r) = r :=
      usable.trans (offsetCheck_passes multiple)
    exact cop2_accesses passes passes
  · have passes {r : Result} : s.withCu2 (offsetCheck offset 3 r) = r :=
      usable.trans (offsetCheck_passes multiple)
    exact cop2_accesses passes passes

end Sys2Proof.Machine
end

section
/-! SUPPORT. The formatted operand registers (44_fpu_model.md R430 to R433): what reading one gives in each
case of its tag, where a result is written in each register model, and what neither touches. -/

namespace Sys2Proof.Machine

open Sys2Proof

variable {s t : State} {w : Footprint} {n : RegNum} {fmt : Fmt} {v : Word} {site : DrawSite}

/-! ### Valid numbers -/

theorem State.validFpr_single (single : s.cfg.fgr64 = true) : s.validFpr n = true := by
  simp [State.validFpr, single]

theorem State.validFpr_pair (pair : s.cfg.fgr64 = false) :
    s.validFpr n = true ↔ n.getLsbD 0 = false := by
  simp [State.validFpr, pair]

/-- Only the 32-bit model has numbers that name no FPR (44_fpu_model.md R433). -/
theorem State.pair_of_invalid (invalid : s.validFpr n = false) : s.cfg.fgr64 = false := by
  cases model : s.cfg.fgr64 with
  | false => rfl
  | true => simp [State.validFpr_single model] at invalid

/-- The other register of a pair, from its even one (10_state.md R42). -/
theorem or_one_of_even : ∀ n : RegNum, n.getLsbD 0 = false → n ||| 1 = n ^^^ 1 := by decide

theorem xor_one_ne : ∀ n : RegNum, n ^^^ 1 ≠ n := by decide

/-! ### Tags -/

theorem State.setTag_of_bits (bits : s.cfg.fprTags = .bits) (g : Tag) : s.setTag n g = s := by
  simp [State.setTag, bits]

theorem State.setTag_of_strict (strict : s.cfg.fprTags = .strict) (g : Tag) :
    s.setTag n g = { s with tags := s.tags.set (s.fprIndex n).toNat g } := by
  simp [State.setTag, strict]

/-- A register that already has the tag stays as it is. -/
theorem State.setTag_tag (n : RegNum) : s.setTag n (s.tag n) = s := by
  cases model : s.cfg.fprTags with
  | bits => exact State.setTag_of_bits model _
  | strict =>
    rw [State.setTag_of_strict model, State.tag, Vector.set_getElem_self]

theorem State.tag_setTag (strict : s.cfg.fprTags = .strict) (g : Tag) : (s.setTag n g).tag n = g := by
  rw [State.setTag_of_strict strict]
  exact Vector.getElem_set_self _

/-! ### Reading an operand (44_fpu_model.md R430, R432) -/

theorem State.fprCell_valid (valid : s.validFpr n = true) :
    s.fprCell n fmt = if isWide fmt then s.fprDouble n else s.fgrLow n := if_pos valid

/-- An odd number of the 32-bit model reads as a free value of the format (R433). -/
theorem State.read_fprCell_invalid (invalid : s.validFpr n = false) (d : Word) :
    (s.fprCell n fmt).read d = if isWide fmt then d else d &&& lowHalf := by
  rw [State.fprCell, if_neg (by simp [invalid])]
  split
  · exact Reg.read_unknown d
  · rw [Reg.read, if_neg (by decide)]
    exact (congrArg (· ||| d &&& lowHalf) BitVec.zero_and).trans BitVec.zero_or

theorem and_fmtMask (d : Word) : d &&& fmtMask fmt = if isWide fmt then d else d &&& lowHalf := by
  unfold fmtMask
  split
  · exact BitVec.and_allOnes
  · rfl

theorem State.valueFpr_bits (bits : s.cfg.fprTags = .bits) :
    s.valueFpr site n fmt = ((s.fprCell n fmt).read (s.draw site), s) := by
  simp only [State.valueFpr, bits]

theorem State.valueFpr_invalid (invalid : s.validFpr n = false) :
    s.valueFpr site n fmt = ((s.fprCell n fmt).read (s.draw site), s) := by
  cases model : s.cfg.fprTags with
  | bits => exact State.valueFpr_bits model
  | strict => simp [State.valueFpr, model, invalid]

/-- The tag is the format or uninterpreted, and the register is then marked with the format. -/
theorem State.valueFpr_match (valid : s.validFpr n = true)
    (matched : s.cfg.fprTags = .strict → s.tag n = .is fmt ∨ s.tag n = .uninterpreted) :
    s.valueFpr site n fmt = ((s.fprCell n fmt).read (s.draw site), s.setTag n (.is fmt)) := by
  cases model : s.cfg.fprTags with
  | bits => rw [State.valueFpr_bits model, State.setTag_of_bits model]
  | strict =>
    rcases matched model with tag | tag
    · have unchanged : s.setTag n (.is fmt) = s := tag ▸ State.setTag_tag n
      simp [State.valueFpr, model, valid, tag, unchanged]
    · simp [State.valueFpr, model, valid, tag]

/-- The tag is another format's or unknown, and the register is then marked unknown. -/
theorem State.valueFpr_mismatch (strict : s.cfg.fprTags = .strict) (valid : s.validFpr n = true)
    (other : s.tag n ≠ .is fmt) (typed : s.tag n ≠ .uninterpreted) :
    s.valueFpr site n fmt = (s.draw site &&& fmtMask fmt, s.setTag n .unknown) := by
  cases tag : s.tag n with
  | uninterpreted => exact absurd tag typed
  | unknown =>
    have unchanged : s.setTag n .unknown = s := tag ▸ State.setTag_tag n
    simp [State.valueFpr, strict, valid, tag, unchanged]
  | is f =>
    have differs : f ≠ fmt := fun same => other (same ▸ tag)
    simp [State.valueFpr, strict, valid, tag, differs]

theorem State.valueFpr_holds (h : s.FprHolds n fmt v) :
    s.valueFpr site n fmt = (v, s.setTag n (.is fmt)) := by
  obtain ⟨valid, cell, matched⟩ := h
  rw [State.valueFpr_match valid matched, cell, Reg.read_of]

/-! ### Writing a result (44_fpu_model.md R431, R433) -/

theorem Reg.low_of (v : Word) :
    Reg.mk ((Reg.of v).val &&& lowHalf) ((Reg.of v).undef &&& lowHalf) = Reg.of (v &&& lowHalf) :=
  congrArg (Reg.mk _) BitVec.zero_and

theorem Reg.high_of (v : Word) :
    Reg.mk ((Reg.of v).val >>> 32) ((Reg.of v).undef >>> 32) = Reg.of (v >>> 32) :=
  congrArg (Reg.mk _) BitVec.zero_ushiftRight

/-- What a result puts into `f[n]` of 64 bits. -/
def resultCell (fmt : Fmt) (v : Word) : Reg :=
  if isWide fmt then Reg.of v else { val := v &&& lowHalf, undef := highHalf }

/-- What a result puts into the odd register of a pair of the 32-bit model. -/
def resultHigh (fmt : Fmt) (v : Word) : Reg :=
  if isWide fmt then Reg.of (v >>> 32) else { val := 0, undef := lowHalf }

theorem State.storeFpr_single (single : s.cfg.fgr64 = true) :
    s.storeFpr n fmt v = (s.putF n (resultCell fmt v)).setTag n (.is fmt) := by
  rw [State.storeFpr, if_pos (State.validFpr_single single), State.putFprDouble, if_pos single,
    if_pos single, resultCell]
  split <;> rfl

theorem State.storeFpr_pair (pair : s.cfg.fgr64 = false) (even : n.getLsbD 0 = false) :
    s.storeFpr n fmt v =
      ((s.putF n (Reg.of (v &&& lowHalf))).putF (n ^^^ 1) (resultHigh fmt v)).setTag n (.is fmt) := by
  have narrow : ¬s.cfg.fgr64 = true := Bool.eq_false_iff.mp pair
  rw [State.storeFpr, if_pos ((State.validFpr_pair pair).mpr even), State.putFprDouble, if_neg narrow,
    if_neg narrow, or_one_of_even n even, resultHigh, Reg.low_of, Reg.high_of]
  split <;> rfl

theorem State.storeFpr_invalid (invalid : s.validFpr n = false) :
    s.storeFpr n fmt v = s.undefPair n := if_neg (Bool.eq_false_iff.mp invalid)

/-! ### What a read and a result leave unchanged -/

theorem Frame.putF (h : Frame s t w) {m : RegNum} (c : Reg) (listed : m ∈ w.fgrs) :
    Frame s (t.putF m c) w where
  __ := h
  fgr q unlisted := by
    have apart : q ≠ m := by
      rintro rfl
      exact unlisted listed
    exact (State.putF_fgr_of_ne c apart).trans (h.fgr q unlisted)

theorem Frame.setTag (h : Frame s t w) {m : RegNum} (g : Tag) (listed : t.fprIndex m ∈ w.tags) :
    Frame s (t.setTag m g) w := by
  cases model : t.cfg.fprTags with
  | bits => rwa [State.setTag_of_bits model]
  | strict =>
    rw [State.setTag_of_strict model]
    refine { h with tags := fun q unlisted => ?_ }
    have apart : (t.fprIndex m).toNat ≠ q.toNat :=
      fun same => unlisted (BitVec.toNat_inj.mp same ▸ listed)
    exact (Vector.getElem_set_ne (t.fprIndex m).isLt q.isLt apart).trans (h.tags q unlisted)

theorem Frame.valueFpr (h : Frame s t w) (site : DrawSite) (fmt : Fmt) (tag : t.fprIndex n ∈ w.tags) :
    Frame s (t.valueFpr site n fmt).2 w := by
  cases valid : t.validFpr n with
  | false => rwa [State.valueFpr_invalid valid]
  | true =>
    by_cases matched : t.cfg.fprTags = .strict → t.tag n = .is fmt ∨ t.tag n = .uninterpreted
    · rw [State.valueFpr_match valid matched]
      exact h.setTag _ tag
    · obtain ⟨strict, mismatch⟩ := Classical.not_imp.mp matched
      obtain ⟨other, typed⟩ := not_or.mp mismatch
      rw [State.valueFpr_mismatch strict valid other typed]
      exact h.setTag _ tag

theorem Frame.storeFpr (h : Frame s t w) (fmt : Fmt) (v : Word)
    (regs : ∀ m ∈ t.fprRegs n, m ∈ w.fgrs) (tag : t.fprIndex n ∈ w.tags) :
    Frame s (t.storeFpr n fmt v) w := by
  cases model : t.cfg.fgr64 with
  | true =>
    rw [State.storeFpr_single model]
    exact (h.putF _ (regs n (by simp [State.fprRegs, model]))).setTag _ tag
  | false =>
    have even_listed : n ∈ w.fgrs := regs n (by simp [State.fprRegs, model])
    have odd_listed : n ^^^ 1 ∈ w.fgrs := regs _ (by simp [State.fprRegs, model])
    cases valid : t.validFpr n with
    | true =>
      rw [State.storeFpr_pair model ((State.validFpr_pair model).mp valid)]
      exact ((h.putF _ even_listed).putF _ odd_listed).setTag _ tag
    | false =>
      rw [State.storeFpr_invalid valid]
      exact ((h.putF _ even_listed).putF _ odd_listed).setTag _ tag

/-! ### What is held after a result -/

/-- The low word of a cell that holds one there. -/
theorem fgrLow_of_low {u : Word} (cell : t.fgr[n.toNat] = { val := v &&& lowHalf, undef := u })
    (defined : u &&& lowHalf = 0) : t.fgrLow n = Reg.of (v &&& lowHalf) := by
  rw [State.fgrLow, cell]
  show Reg.mk (v &&& lowHalf &&& lowHalf) (u &&& lowHalf) = _
  rw [defined, BitVec.and_assoc, BitVec.and_self]
  rfl

/-- A doubleword is the words of its pair (10_state.md R42). -/
theorem join_halves (v : Word) : (v >>> 32 &&& lowHalf) <<< 32 ||| v &&& lowHalf = v := by
  have low_bits (x : Word) : (x &&& lowHalf).toNat = x.toNat % 2 ^ 32 := by
    rw [BitVec.toNat_and]
    exact Nat.and_two_pow_sub_one_eq_mod x.toNat 32
  have high_word : (v >>> 32 &&& lowHalf).toNat = v.toNat / 2 ^ 32 := by
    rw [low_bits, BitVec.toNat_ushiftRight, Nat.shiftRight_eq_div_pow]
    omega
  have fits : v.toNat / 2 ^ 32 * 2 ^ 32 < 2 ^ 64 := by omega
  apply BitVec.eq_of_toNat_eq
  rw [BitVec.toNat_or, BitVec.toNat_shiftLeft, high_word, low_bits, Nat.shiftLeft_eq,
    Nat.mod_eq_of_lt fits, mul_comm, ← Nat.two_pow_add_eq_or_of_lt (Nat.mod_lt _ (by decide))]
  exact Nat.div_add_mod ..

theorem fgrPair_of_words (even : n.getLsbD 0 = false)
    (low : t.fgr[n.toNat] = Reg.of (v &&& lowHalf))
    (high : t.fgr[(n ^^^ 1).toNat] = Reg.of (v >>> 32)) : t.fgrPair n = Reg.of v := by
  have low_word : t.fgrLow n = Reg.of (v &&& lowHalf) := fgrLow_of_low low (by decide)
  have high_word : t.fgrLow (n ||| 1) = Reg.of (v >>> 32 &&& lowHalf) := by
    rw [or_one_of_even n even, State.fgrLow, high]
    exact Reg.low_of _
  rw [State.fgrPair, low_word, high_word]
  have defined : (0 : Word) <<< 32 ||| 0 = 0 := by decide
  exact congrArg₂ Reg.mk (join_halves v) defined

/-- Where a result goes, register by register. -/
theorem State.storeFpr_cells :
    (s.cfg.fgr64 = true → (s.storeFpr n fmt v).fgr[n.toNat] = resultCell fmt v) ∧
      (s.cfg.fgr64 = false → n.getLsbD 0 = false →
        (s.storeFpr n fmt v).fgr[n.toNat] = Reg.of (v &&& lowHalf) ∧
        (s.storeFpr n fmt v).fgr[(n ^^^ 1).toNat] = resultHigh fmt v) := by
  refine ⟨fun single => ?_, fun pair even => ⟨?_, ?_⟩⟩
  · simp only [State.storeFpr_single single, State.setTag_fgr]
    exact State.putF_fgr_same ..
  · simp only [State.storeFpr_pair pair even, State.setTag_fgr]
    exact (State.putF_fgr_of_ne _ (xor_one_ne n).symm).trans (State.putF_fgr_same ..)
  · simp only [State.storeFpr_pair pair even, State.setTag_fgr]
    exact State.putF_fgr_same ..

theorem State.storeFpr_tag (strict : s.cfg.fprTags = .strict) (valid : s.validFpr n = true) :
    (s.storeFpr n fmt v).tag n = .is fmt := by
  rw [State.storeFpr, if_pos valid]
  exact State.tag_setTag (by split <;> [skip; split] <;> simp [strict]) _

theorem State.storeFpr_fprCell (valid : s.validFpr n = true) :
    (s.storeFpr n fmt v).fprCell n fmt = Reg.of (v &&& fmtMask fmt) := by
  have still_valid : (s.storeFpr n fmt v).validFpr n = true := by
    rw [← valid]
    simp [State.validFpr]
  obtain ⟨single_cell, pair_cells⟩ := State.storeFpr_cells (s := s) (n := n) (fmt := fmt) (v := v)
  rw [State.fprCell_valid still_valid, and_fmtMask, State.fprDouble, State.storeFpr_cfg]
  cases model : s.cfg.fgr64 with
  | true =>
    have cell := single_cell model
    unfold resultCell at cell
    cases wide : isWide fmt with
    | true => simpa [wide] using cell
    | false => exact fgrLow_of_low (by simpa [wide] using cell) (by decide)
  | false =>
    have even := (State.validFpr_pair model).mp valid
    obtain ⟨low, high⟩ := pair_cells model even
    unfold resultHigh at high
    cases wide : isWide fmt with
    | true =>
      simpa [still_valid] using fgrPair_of_words even low (by simpa [wide] using high)
    | false => exact fgrLow_of_low low (by decide)

/-- A result of the 32-bit model with an odd number leaves its pair undefined (R433, log 26). -/
theorem State.undefPair_cells (n : RegNum) :
    (s.undefPair n).fgr[n.toNat] = { val := 0, undef := lowHalf } ∧
      (s.undefPair n).fgr[(n ^^^ 1).toNat] = { val := 0, undef := lowHalf } := by
  simp only [State.undefPair, State.setTag_fgr]
  exact ⟨(State.putF_fgr_of_ne _ (xor_one_ne n).symm).trans (State.putF_fgr_same ..),
    State.putF_fgr_same ..⟩

theorem State.storeFpr_result (s : State) (n : RegNum) (fmt : Fmt) (v : Word) :
    (s.storeFpr n fmt v).FprResult n fmt v := by
  have same_numbers : (s.storeFpr n fmt v).validFpr n = s.validFpr n := by simp [State.validFpr]
  rw [State.FprResult, same_numbers, State.storeFpr_cfg]
  split
  · next valid => exact ⟨State.storeFpr_fprCell valid, fun strict => State.storeFpr_tag strict valid⟩
  · next not_valid =>
    have invalid : s.validFpr n = false := Bool.eq_false_iff.mpr not_valid
    rw [State.storeFpr_invalid invalid]
    obtain ⟨even, odd⟩ := State.undefPair_cells (s := s) n
    exact ⟨even, odd, fun strict => State.tag_setTag (by simpa using strict) _⟩

/-- Settles O46: the read by the cases of the tag, the result by the register model. -/
theorem formattedRegisterAccess : Obligations.FormattedRegisterAccess := by
  refine ⟨fun s site n fmt => ⟨fun v => State.valueFpr_holds, ?bits, ?mismatch, ?invalid⟩, ?result⟩
  case bits =>
    intro valid bits
    rw [State.valueFpr_bits bits, State.fprCell_valid valid]
    split <;> rfl
  case mismatch =>
    intro valid strict other typed
    rw [State.valueFpr_mismatch strict valid other typed, and_fmtMask]
  case invalid =>
    intro invalid
    rw [State.valueFpr_invalid invalid, State.read_fprCell_invalid invalid]
  case result =>
    rintro s n fmt v t rfl
    have frame : Frame s (s.storeFpr n fmt v) { fgrs := s.fprRegs n, tags := [s.fprIndex n] } :=
      (Frame.refl rfl).storeFpr fmt v (fun _ => id) (List.mem_singleton_self _)
    exact ⟨frame, State.storeFpr_result s n fmt v, State.storeFpr_cells⟩

end Sys2Proof.Machine
end

section
/-! PROOFS. Every operation of the FPU and every formatted move goes on, whatever its operands hold
(44_fpu_model.md R432, R442, R444, R462): it completes within coprocessor 1's own state, or raises
Floating-Point. -/

namespace Sys2Proof.Machine

open Sys2Proof

variable {i : Instr} {s t u : State} {op : FpOp} {fmt : Fmt} {fd fs ft fr : RegNum}

/-! ### Within the state of coprocessor 1 -/

/-- The registers, tags and control register of coprocessor 1. -/
def cop1State : Footprint := { fgrs := allRegs, tags := allRegs, fcsr := true }

theorem mem_allRegs : ∀ n : RegNum, n ∈ allRegs := by decide

/-- From `s` to `t`, in the middle of an instruction, only coprocessor 1's state has changed. -/
structure WithinCop1 (s t : State) : Prop where
  frame : Frame s t cop1State
  npc : t.npc = s.npc
  hiRd : t.hiRd = s.hiRd
  loRd : t.loRd = s.loRd

theorem WithinCop1.refl (s : State) : WithinCop1 s s := ⟨.refl rfl, rfl, rfl, rfl⟩

theorem WithinCop1.valueFpr (h : WithinCop1 s t) (site : DrawSite) (n : RegNum) (fmt : Fmt) :
    WithinCop1 s (t.valueFpr site n fmt).2 where
  frame := h.frame.valueFpr site fmt (mem_allRegs _)
  npc := (State.valueFpr_npc ..).trans h.npc
  hiRd := (State.valueFpr_hiRd ..).trans h.hiRd
  loRd := (State.valueFpr_loRd ..).trans h.loRd

theorem WithinCop1.storeFpr (h : WithinCop1 s t) (n : RegNum) (fmt : Fmt) (v : Word) :
    WithinCop1 s (t.storeFpr n fmt v) where
  frame := h.frame.storeFpr fmt v (fun m _ => mem_allRegs m) (mem_allRegs _)
  npc := (State.storeFpr_npc ..).trans h.npc
  hiRd := (State.storeFpr_hiRd ..).trans h.hiRd
  loRd := (State.storeFpr_loRd ..).trans h.loRd

theorem WithinCop1.withFcsr (h : WithinCop1 s t) (f : BitVec 32) :
    WithinCop1 s { t with fcsr := f } :=
  { h with frame := { h.frame with fcsr := nofun } }

/-! ### The two ways an operation goes on -/

/-- The instruction completes within coprocessor 1's state, or raises Floating-Point with only the cause
field changed. -/
def GoesOn (i : Instr) (s : State) : Prop :=
  Completes i s cop1State (fun _ => True) ∨
    ∃ f, f &&& 0xfffc0fff = s.fcsr &&& 0xfffc0fff ∧ RaisesFp i s f

theorem goesOn_of_complete (runs : exec i s = .next u.complete) (within : WithinCop1 s u) :
    GoesOn i s :=
  .inl (completes_of_exec runs within.frame trivial within.npc within.hiRd within.loRd)

theorem raisesFp_of_exec {f : BitVec 32}
    (runs : exec i s = .next ({ s with fcsr := f }.raise .floatingPoint)) : RaisesFp i s f :=
  ⟨_, runs, by constructor <;> rfl, rfl⟩

theorem goesOn_of_trap {c : Conds}
    (runs : exec i s = .next ({ s with fcsr := setCause s.fcsr c }.raise .floatingPoint)) :
    GoesOn i s :=
  .inr ⟨_, (fcsrTrapped_setCause s.fcsr c).2, raisesFp_of_exec runs⟩

/-! ### The shared operations -/

theorem goesOn_of_fpResult {c : Conds} {write : State → State}
    (runs : exec i s = s.fpResult u c write) (operands : WithinCop1 s u)
    (writes : ∀ v, WithinCop1 s v → WithinCop1 s (write v)) : GoesOn i s := by
  rw [State.fpResult] at runs
  split at runs
  · exact goesOn_of_trap runs
  · exact goesOn_of_complete runs (writes _ (operands.withFcsr _))

theorem goesOn_of_fpUnary {src dst : Fmt} {f : Word → Word × Conds} (usable : s.cfg.cu1 = true)
    (runs : exec i s = s.fpUnary op src dst f fd fs) : GoesOn i s :=
  goesOn_of_fpResult (runs.trans (State.withCu1_usable usable)) ((WithinCop1.refl s).valueFpr ..)
    fun _ h => h.storeFpr ..

theorem goesOn_of_fpBinary {f : Word → Word → Word × Conds} (usable : s.cfg.cu1 = true)
    (runs : exec i s = s.fpBinary op fmt f fd fs ft) : GoesOn i s :=
  goesOn_of_fpResult (runs.trans (State.withCu1_usable usable))
    (((WithinCop1.refl s).valueFpr ..).valueFpr ..) fun _ h => h.storeFpr ..

theorem goesOn_of_fpTernary {f : Word → Word → Word → Word × Conds} (usable : s.cfg.cu1 = true)
    (runs : exec i s = s.fpTernary op fmt f fd fr fs ft) : GoesOn i s :=
  goesOn_of_fpResult (runs.trans (State.withCu1_usable usable))
    ((((WithinCop1.refl s).valueFpr ..).valueFpr ..).valueFpr ..) fun _ h => h.storeFpr ..

theorem goesOn_of_fpCompareOp {cond : BitVec 4} {cc : BitVec 3} (usable : s.cfg.cu1 = true)
    (runs : exec i s = s.fpCompareOp cond fmt cc fs ft) : GoesOn i s :=
  goesOn_of_fpResult (runs.trans (State.withCu1_usable usable))
    (((WithinCop1.refl s).valueFpr ..).valueFpr ..) fun _ h => h.withFcsr _

theorem goesOn_of_moveFpr {src : RegNum} {site : DrawSite}
    (runs : exec i s = s.moveFpr op fmt fd src site) : GoesOn i s := by
  simp only [State.moveFpr] at runs
  split at runs
  · exact goesOn_of_trap runs
  · exact goesOn_of_complete runs (((WithinCop1.refl s).valueFpr ..).storeFpr ..)

/-- A conditional move reads the destination where its condition is false. -/
theorem goesOn_of_moveFprIf {cond : Bool} (usable : s.cfg.cu1 = true)
    (runs : exec i s = s.moveFprIf op cond fmt fd fs) : GoesOn i s := by
  rw [State.moveFprIf, State.withCu1_usable usable] at runs
  split at runs
  · exact goesOn_of_moveFpr runs
  · exact goesOn_of_moveFpr runs

/-- Settles O51, by the shared operation each instruction runs. -/
theorem fpAlwaysFinishes : Obligations.FpAlwaysFinishes := by
  intro i s member usable
  show GoesOn i s
  cases i with
  | addS | addD | subS | subD | mulS | mulD | divS | divD => exact goesOn_of_fpBinary usable rfl
  | maddS | maddD | msubS | msubD | nmaddS | nmaddD | nmsubS | nmsubD =>
    exact goesOn_of_fpTernary usable rfl
  | sqrtS | sqrtD | absS | absD | negS | negD | recipS | recipD | rsqrtS | rsqrtD
  | roundLS | roundLD | truncLS | truncLD | ceilLS | ceilLD | floorLS | floorLD
  | roundWS | roundWD | truncWS | truncWD | ceilWS | ceilWD | floorWS | floorWD
  | cvtSD | cvtSW | cvtSL | cvtDS | cvtDW | cvtDL | cvtWS | cvtWD | cvtLS | cvtLD =>
    exact goesOn_of_fpUnary usable rfl
  | cFS | cUnS | cEqS | cUeqS | cOltS | cUltS | cOleS | cUleS | cSfS | cNgleS | cSeqS | cNglS | cLtS
  | cNgeS | cLeS | cNgtS | cFD | cUnD | cEqD | cUeqD | cOltD | cUltD | cOleD | cUleD | cSfD | cNgleD
  | cSeqD | cNglD | cLtD | cNgeD | cLeD | cNgtD =>
    exact goesOn_of_fpCompareOp usable rfl
  | movS | movD => exact goesOn_of_moveFpr (State.withCu1_usable usable)
  | movfS | movfD | movtS | movtD | movnS | movnD | movzS | movzD =>
    exact goesOn_of_moveFprIf usable rfl
  | _ => rcases member with finishes | moves <;> contradiction

end Sys2Proof.Machine
end

section
/-! SUPPORT. The numbers patterns stand for (44_fpu_model.md R422 to R426) and the rule for NaN operands
(R456), as the statements about the operations on patterns need them. -/

namespace Sys2Proof.Machine

open Sys2Proof

variable {c : Config} {f : BitVec 32} {op : FpOp} {fmt : Fmt} {a b d v : Word} {x y : Num}
  {ns : List Num} {s t neg : Bool} {m n : Nat} {e g : Int}

/-! ### Numbers and their patterns -/

/-- The sign of a number that is no NaN is the sign bit of its pattern. -/
theorem signBit_of_decodeNum (h : decodeNum fmt v = .inf s ∨ ∃ m e, decodeNum fmt v = .fin s m e) :
    signBit fmt v = s := by
  simp only [decodeNum] at h
  split at h
  · split at h
    · simpa using h
    · simp at h
  · split at h
    · simpa using h
    · simpa using h

theorem signBit_of_fin (h : decodeNum fmt v = .fin s m e) : signBit fmt v = s :=
  signBit_of_decodeNum (.inr ⟨m, e, h⟩)

theorem signBit_of_inf (h : decodeNum fmt v = .inf s) : signBit fmt v = s :=
  signBit_of_decodeNum (.inl h)

theorem Num.eq_fin_of_isFinite (h : x.isFinite = true) : ∃ s m e, x = .fin s m e := by
  cases x with
  | fin s m e => exact ⟨s, m, e, rfl⟩
  | nan | inf => cases h

theorem Num.toRat_fin_eq_zero : (Num.fin s m e).toRat = 0 ↔ m = 0 := by
  have scale : (2 : ℚ) ^ e ≠ 0 := (zpow_pos two_pos e).ne'
  cases s <;> simp [Num.toRat, scale]

theorem Num.toRat_fin_neg : (Num.fin s m e).toRat < 0 ↔ s = true ∧ m ≠ 0 := by
  have magnitude : (0 : ℚ) ≤ m * 2 ^ e := by positivity
  have scale : (2 : ℚ) ^ e ≠ 0 := (zpow_pos two_pos e).ne'
  cases s
  · simpa [Num.toRat] using magnitude
  · have sign : (Num.fin true m e).toRat = -(m * 2 ^ e) := by simp [Num.toRat]
    rw [sign, neg_lt_zero, magnitude.lt_iff_ne', mul_ne_zero_iff, Nat.cast_ne_zero]
    simp [scale]

/-! ### NaN operands -/

theorem anySignaling_iff : anySignaling ns = true ↔ .nan true ∈ ns := by
  simp [anySignaling]

theorem anyNaN_iff : anyNaN ns = true ↔ ∃ n ∈ ns, n.isNaN = true := by
  rw [anyNaN, List.any_eq_true]
  rfl

theorem nanRule_signaling {r : Word × Conds} (h : .nan true ∈ ns) :
    nanRule c op fmt ns a b d r = (defaultQNaN fmt, condV) := if_pos (anySignaling_iff.mpr h)

theorem nanRule_quiet {r : Word × Conds} (default : c.qnan = .default) (none_signals : .nan true ∉ ns)
    (h : .nan false ∈ ns) : nanRule c op fmt ns a b d r = (defaultQNaN fmt, condNone) := by
  rw [nanRule, if_neg (mt anySignaling_iff.mp none_signals), if_pos (anyNaN_iff.mpr ⟨_, h, rfl⟩),
    quietNaNOf, default]

theorem nanRule_numbers {r : Word × Conds} (h : ∀ n ∈ ns, n.isNaN = false) :
    nanRule c op fmt ns a b d r = r := by
  have no_nan : ¬∃ n ∈ ns, n.isNaN = true := by
    rintro ⟨n, member, nan⟩
    simp [h n member] at nan
  rw [nanRule, if_neg fun signals => no_nan ⟨_, anySignaling_iff.mp signals, rfl⟩,
    if_neg (mt anyNaN_iff.mp no_nan)]

/-! ### The operations on patterns that are no NaN -/

section

variable (ha : decodeNum fmt a = x) (hb : decodeNum fmt b = y) (nx : x.isNaN = false)
  (ny : y.isNaN = false)

include ha nx

theorem fpSqrt_numbers : fpSqrt c f fmt a = sqrtNum c f fmt x := by
  rw [fpSqrt, nanRule_numbers] <;> simp [ha, nx]

include hb ny

theorem fpAdd_numbers : fpAdd c f fmt a b = addNum c f fmt x y := by
  rw [fpAdd, nanRule_numbers] <;> simp [ha, hb, nx, ny]

theorem fpSub_numbers : fpSub c f fmt a b = addNum c f fmt x (negNum y) := by
  rw [fpSub, nanRule_numbers] <;> simp [ha, hb, nx, ny]

theorem fpMul_numbers : fpMul c f fmt a b = mulNum c f fmt x y := by
  rw [fpMul, nanRule_numbers] <;> simp [ha, hb, nx, ny]

theorem fpDiv_numbers : fpDiv c f fmt a b = divNum c f fmt x y := by
  rw [fpDiv, nanRule_numbers] <;> simp [ha, hb, nx, ny]

end

end Sys2Proof.Machine
end

section
/-! PROOFS. The sum, difference and product of finite numbers deliver the exact result (44_fpu_model.md R455,
R457, R461, 46_fpu_arith.md R500 to R502). -/

namespace Sys2Proof.Machine

open Sys2Proof

variable {c : Config} {f : BitVec 32} {fmt : Fmt} {s t neg zeroNeg : Bool} {m n : Nat} {e g q : Int}

/-- An integer number of units of `2 ^ q`, in signed magnitude. -/
theorem Num.toRat_natAbs {z : Int} (sign : z ≠ 0 → neg = decide (z < 0)) :
    (Num.fin neg z.natAbs q).toRat = z * 2 ^ q := by
  have signed : (if neg then -1 else 1) * (z.natAbs : ℚ) = z := by
    rcases lt_trichotomy z 0 with negative | rfl | positive
    · rw [sign negative.ne, Nat.cast_natAbs, abs_of_neg negative]
      simp [negative]
    · simp
    · rw [sign positive.ne', Nat.cast_natAbs, abs_of_pos positive]
      simp [positive.not_gt]
  rw [Num.toRat, signed]

theorem scaled_mul_two_zpow (unit : q ≤ e) :
    (scaled s m e q : ℚ) * 2 ^ q = (Num.fin s m e).toRat := by
  obtain ⟨k, hk⟩ := Int.eq_ofNat_of_zero_le (sub_nonneg.mpr unit)
  have split : (2 : ℚ) ^ e = 2 ^ k * 2 ^ q := by
    rw [← zpow_natCast, ← zpow_add₀ two_ne_zero]
    congr 1
    omega
  have magnitude : (scaled s m e q : ℚ) = (if s then -1 else 1) * (m * 2 ^ k) := by
    rw [scaled, hk, Int.toNat_natCast, Nat.shiftLeft_eq]
    cases s <;> simp
  rw [magnitude, Num.toRat, split]
  ring

/-- `r` is the delivery of `z`, a zero having the sign `zeroNeg`. -/
def Delivers (c : Config) (f : BitVec 32) (fmt : Fmt) (r : Word × Conds) (z : ℚ) (zeroNeg : Bool) : Prop :=
  ∃ neg mant exp, r = roundValue c f fmt neg mant exp false ∧ (Num.fin neg mant exp).toRat = z ∧
    (z = 0 → neg = zeroNeg)

theorem addNum_delivers :
    Delivers c f fmt (addNum c f fmt (.fin s m e) (.fin t n g))
      ((Num.fin s m e).toRat + (Num.fin t n g).toRat) (if s = t then s else decide (fcsrRm f = 3)) := by
  have sum : ((scaled s m e (min e g) + scaled t n g (min e g) : Int) : ℚ) * 2 ^ min e g =
      (Num.fin s m e).toRat + (Num.fin t n g).toRat := by
    rw [← scaled_mul_two_zpow (min_le_left e g), ← scaled_mul_two_zpow (min_le_right e g), ← add_mul,
      Int.cast_add]
  refine ⟨_, _, _, rfl, (Num.toRat_natAbs fun nonzero => if_neg nonzero).trans sum, fun zero => ?_⟩
  have no_units : scaled s m e (min e g) + scaled t n g (min e g) = 0 := by
    have scale : (2 : ℚ) ^ min e g ≠ 0 := (zpow_pos two_pos _).ne'
    exact_mod_cast (mul_eq_zero.mp (sum.trans zero)).resolve_right scale
  exact if_pos no_units

theorem Num.toRat_not : (Num.fin (!t) n g).toRat = -(Num.fin t n g).toRat := by
  cases t <;> simp [Num.toRat]

theorem mulNum_delivers :
    Delivers c f fmt (mulNum c f fmt (.fin s m e) (.fin t n g))
      ((Num.fin s m e).toRat * (Num.fin t n g).toRat) (s ^^ t) := by
  refine ⟨s ^^ t, m * n, e + g, rfl, ?_, fun _ => rfl⟩
  have signs : (if (s ^^ t) then -1 else 1 : ℚ) = (if s then -1 else 1) * if t then -1 else 1 := by
    cases s <;> cases t <;> norm_num
  rw [Num.toRat, Num.toRat, Num.toRat, zpow_add₀ two_ne_zero, Nat.cast_mul, signs]
  ring

/-- Settles O55: the difference is a sum with the second sign inverted. -/
theorem sumAndProductRoundTheExactResult : Obligations.SumAndProductRoundTheExactResult := by
  rintro c f fmt a b _ _ finite_a finite_b rfl rfl
  obtain ⟨s, m, e, ha⟩ := Num.eq_fin_of_isFinite finite_a
  obtain ⟨t, n, g, hb⟩ := Num.eq_fin_of_isFinite finite_b
  dsimp only
  rw [fpAdd_numbers ha hb rfl rfl, fpSub_numbers ha hb rfl rfl, fpMul_numbers ha hb rfl rfl,
    signBit_of_fin ha, signBit_of_fin hb, ha, hb]
  refine ⟨addNum_delivers, ?_, mulNum_delivers⟩
  rw [sub_eq_add_neg, ← Num.toRat_not]
  exact addNum_delivers

end Sys2Proof.Machine
end

section
/-! PROOFS. The exceptional operands of ADD, SUB, MUL, DIV and SQRT (44_fpu_model.md R443, R445, R456, R461,
46_fpu_arith.md R500 to R504). -/

namespace Sys2Proof.Machine

open Sys2Proof

variable {c : Config} {f : BitVec 32} {fmt : Fmt} {a b : Word} {s t : Bool} {m n : Nat} {e g : Int}

/-! ### On numbers -/

theorem mulNum_inf_fin : mulNum c f fmt (.inf s) (.fin t n g) =
    if n = 0 then (defaultQNaN fmt, condV) else (fpInf fmt (s ^^ t), condNone) := by
  unfold mulNum mulExact
  by_cases zero : n = 0
  · simp [zero, invalidResult]
  · simp [zero, roundNum]

theorem mulNum_fin_inf : mulNum c f fmt (.fin s m e) (.inf t) =
    if m = 0 then (defaultQNaN fmt, condV) else (fpInf fmt (s ^^ t), condNone) := by
  unfold mulNum mulExact
  by_cases zero : m = 0
  · simp [zero, invalidResult]
  · simp [zero, roundNum]

/-- The difference of two infinities: the sum with the second sign inverted. -/
theorem addNum_inf_not : addNum c f fmt (.inf s) (.inf !t) =
    if s = t then (defaultQNaN fmt, condV) else (fpInf fmt s, condNone) := by
  cases s <;> cases t <;> rfl

theorem divNum_zero : divNum c f fmt (.fin s m e) (.fin t 0 g) =
    if m = 0 then (defaultQNaN fmt, condV) else (fpInf fmt (s ^^ t), condZ) := rfl

theorem divNum_zero_dividend (nonzero : n ≠ 0) :
    divNum c f fmt (.fin s 0 e) (.fin t n g) = (fpZero fmt (s ^^ t), condNone) := if_neg nonzero

theorem sqrtNum_zero : sqrtNum c f fmt (.fin s 0 e) = (fpZero fmt s, condNone) := rfl

theorem sqrtNum_neg (nonzero : m ≠ 0) :
    sqrtNum c f fmt (.fin true m e) = (defaultQNaN fmt, condV) := if_neg nonzero

/-! ### On patterns -/

/-- The four operations of two operands look for NaN operands before anything else. -/
theorem nan_first {r : Word × Conds}
    (h : r ∈ [fpAdd c f fmt a b, fpSub c f fmt a b, fpMul c f fmt a b, fpDiv c f fmt a b]) :
    ∃ op k, r = nanRule c op fmt [decodeNum fmt a, decodeNum fmt b] a b 0 k := by
  simp only [List.mem_cons, List.not_mem_nil, or_false] at h
  rcases h with rfl | rfl | rfl | rfl
  · exact ⟨.add, _, rfl⟩
  · exact ⟨.sub, _, rfl⟩
  · exact ⟨.mul, _, rfl⟩
  · exact ⟨.div, _, rfl⟩

/-- Settles O57: the NaN operands first, then the infinities, then the zeros. -/
theorem exceptionalOperands : Obligations.ExceptionalOperands := by
  intro c f fmt a b _
  dsimp only
  refine ⟨?signaling, ?sqrt_signaling, ?sqrt_quiet, ?quiet_left, ?quiet_right, ?inf_inf, ?inf_fin, ?fin_inf,
    ?zero_divisor, ?zero_dividend, ?sqrt_negative, ?sqrt_inf, ?sqrt_minus_inf, ?sqrt_zero⟩
  case signaling =>
    intro signals r member
    obtain ⟨op, k, rfl⟩ := nan_first member
    exact nanRule_signaling (by simpa [eq_comm] using signals)
  case sqrt_signaling => exact fun signals => nanRule_signaling (by simp [signals])
  case sqrt_quiet => exact fun default quiet => nanRule_quiet default (by simp [quiet]) (by simp [quiet])
  case quiet_left =>
    intro default quiet other r member
    obtain ⟨op, k, rfl⟩ := nan_first member
    exact nanRule_quiet default (by simp [quiet, other.symm]) (by simp [quiet])
  case quiet_right =>
    intro default quiet other r member
    obtain ⟨op, k, rfl⟩ := nan_first member
    exact nanRule_quiet default (by simp [quiet, other.symm]) (by simp [quiet])
  case inf_inf =>
    intro s t ha hb
    exact ⟨fpAdd_numbers ha hb rfl rfl, (fpSub_numbers ha hb rfl rfl).trans addNum_inf_not,
      fpMul_numbers ha hb rfl rfl, fpDiv_numbers ha hb rfl rfl⟩
  case inf_fin =>
    intro s ha finite
    obtain ⟨t, n, g, hb⟩ := Num.eq_fin_of_isFinite finite
    simp only [signBit_of_fin hb, hb, Num.toRat_fin_eq_zero]
    exact ⟨fpAdd_numbers ha hb rfl rfl, fpSub_numbers ha hb rfl rfl,
      (fpMul_numbers ha hb rfl rfl).trans mulNum_inf_fin, fpDiv_numbers ha hb rfl rfl⟩
  case fin_inf =>
    intro t finite hb
    obtain ⟨s, m, e, ha⟩ := Num.eq_fin_of_isFinite finite
    simp only [signBit_of_fin ha, ha, Num.toRat_fin_eq_zero]
    exact ⟨fpAdd_numbers ha hb rfl rfl, fpSub_numbers ha hb rfl rfl,
      (fpMul_numbers ha hb rfl rfl).trans mulNum_fin_inf, fpDiv_numbers ha hb rfl rfl⟩
  case zero_divisor =>
    intro finite_a finite_b zero
    obtain ⟨s, m, e, ha⟩ := Num.eq_fin_of_isFinite finite_a
    obtain ⟨t, n, g, hb⟩ := Num.eq_fin_of_isFinite finite_b
    rw [hb, Num.toRat_fin_eq_zero] at zero
    subst zero
    simp only [signBit_of_fin ha, signBit_of_fin hb, ha, Num.toRat_fin_eq_zero]
    exact (fpDiv_numbers ha hb rfl rfl).trans divNum_zero
  case zero_dividend =>
    intro finite_a finite_b zero nonzero
    obtain ⟨s, m, e, ha⟩ := Num.eq_fin_of_isFinite finite_a
    obtain ⟨t, n, g, hb⟩ := Num.eq_fin_of_isFinite finite_b
    rw [ha, Num.toRat_fin_eq_zero] at zero
    rw [hb, Ne, Num.toRat_fin_eq_zero] at nonzero
    subst zero
    rw [signBit_of_fin ha, signBit_of_fin hb, fpDiv_numbers ha hb rfl rfl, divNum_zero_dividend nonzero]
  case sqrt_negative =>
    intro finite negative
    obtain ⟨s, m, e, ha⟩ := Num.eq_fin_of_isFinite finite
    rw [ha, Num.toRat_fin_neg] at negative
    obtain ⟨rfl, nonzero⟩ := negative
    exact (fpSqrt_numbers ha rfl).trans (sqrtNum_neg nonzero)
  case sqrt_inf => exact fun ha => fpSqrt_numbers ha rfl
  case sqrt_minus_inf => exact fun ha => fpSqrt_numbers ha rfl
  case sqrt_zero =>
    intro finite zero
    obtain ⟨s, m, e, ha⟩ := Num.eq_fin_of_isFinite finite
    rw [ha, Num.toRat_fin_eq_zero] at zero
    subst zero
    rw [signBit_of_fin ha, fpSqrt_numbers ha rfl, sqrtNum_zero]

end Sys2Proof.Machine
end

section
/-! PROOFS. Conversion to fixed point (44_fpu_model.md R424, R460). -/

namespace Sys2Proof.Machine

open Sys2Proof

variable {dst : Fmt} {v : Int}

theorem inFixedRange_iff : inFixedRange dst v = true ↔
    -(2 ^ (fmtPrec dst - 1)) ≤ v ∧ v ≤ 2 ^ (fmtPrec dst - 1) - 1 := by
  simp [inFixedRange]

/-- An integer in range is what its pattern stands for. -/
theorem fixedValue_ofInt (fixed : dst = .w ∨ dst = .l) (range : inFixedRange dst v = true) :
    fixedValue dst (BitVec.ofInt 64 v &&& fmtMask dst) = v := by
  obtain ⟨low, high⟩ := inFixedRange_iff.mp range
  rcases fixed with rfl | rfl
  · have low_bits : BitVec.setWidth 32 lowHalf = BitVec.allOnes 32 := by decide
    have value : (BitVec.ofInt 64 v).toInt = v :=
      toInt_ofInt_double (by simp only [fmtPrec] at low high; omega)
    have word : WordValue (BitVec.ofInt 64 v) := by
      rw [WordValue, value]
      exact ⟨low, Int.lt_of_le_sub_one high⟩
    show ((BitVec.ofInt 64 v &&& lowHalf).setWidth 32).toInt = v
    rw [BitVec.setWidth_and, low_bits, BitVec.and_allOnes]
    exact (toInt_lowWord word).trans value
  · show (BitVec.ofInt 64 v &&& BitVec.allOnes 64).toInt = v
    rw [BitVec.and_allOnes]
    exact toInt_ofInt_double ⟨low, Int.lt_of_le_sub_one high⟩

/-- Settles O60: what is no finite number, then the range of the rounded integer. -/
theorem fixedPointConversion : Obligations.FixedPointConversion := by
  intro rm src dst a _ fixed
  refine ⟨fun not_finite => ?_, fun neg mant exp n inexact number rounded => ?_⟩
  · cases number : decodeNum src a with
    | fin => simp [number, Num.isFinite] at not_finite
    | nan | inf => simp only [fpToFixed, number, invalidResult]
  · intro v
    have converts : fpToFixed rm src dst a =
        if inFixedRange dst v then
          (BitVec.ofInt 64 v &&& fmtMask dst, if inexact then condI else condNone)
        else (defaultQNaN dst, condV) := by
      simp only [fpToFixed, number, rounded, invalidResult, v]
    rw [converts]
    by_cases range : inFixedRange dst v = true
    · rw [if_pos range, if_pos (inFixedRange_iff.mp range)]
      exact ⟨fixedValue_ofInt fixed range, rfl⟩
    · rw [if_neg range, if_neg (mt inFixedRange_iff.mpr range)]

end Sys2Proof.Machine
end

section
/-! SUPPORT. The patterns of finite numbers (44_fpu_model.md R422, R423): what a sign and magnitude bits
stand for. -/

namespace Sys2Proof.Machine

open Sys2Proof

variable {fmt : Fmt} {neg : Bool} {mag k n : Nat}

/-! ### The fields of a pattern -/

/-- The bits below the sign. -/
def magBits (fmt : Fmt) : Nat := fmtPrec fmt - 1 + fmtExpBits fmt

theorem sign_place (float : fmt = .s ∨ fmt = .d) : (if isWide fmt then 63 else 31) = magBits fmt := by
  rcases float with rfl | rfl <;> rfl

theorem packSign_toNat (float : fmt = .s ∨ fmt = .d) (small : mag < 2 ^ magBits fmt) :
    (packSign fmt neg mag).toNat = mag + if neg then 2 ^ magBits fmt else 0 := by
  have sign : (if isWide fmt then 2 ^ 63 else 2 ^ 31 : Nat) = 2 ^ magBits fmt := by
    rw [← sign_place float]
    split <;> rfl
  have word : 2 ^ magBits fmt + 2 ^ magBits fmt ≤ 2 ^ 64 := by
    rcases float with rfl | rfl <;> decide
  rw [packSign, sign, BitVec.toNat_ofNat]
  cases neg
  · exact Nat.mod_eq_of_lt (by simp; omega)
  · exact Nat.mod_eq_of_lt (by simp; omega)

theorem expField_packSign (float : fmt = .s ∨ fmt = .d) (small : mag < 2 ^ magBits fmt) :
    expField fmt (packSign fmt neg mag) = mag / 2 ^ (fmtPrec fmt - 1) := by
  rw [expField, packSign_toNat float small]
  rw [magBits, pow_add] at small ⊢
  have field : mag / 2 ^ (fmtPrec fmt - 1) % 2 ^ fmtExpBits fmt = mag / 2 ^ (fmtPrec fmt - 1) :=
    Nat.mod_eq_of_lt (Nat.div_lt_of_lt_mul small)
  cases neg
  · exact field
  · rw [if_pos rfl, Nat.add_mul_div_left _ _ (by positivity), Nat.add_mod_right, field]

theorem fracField_packSign (float : fmt = .s ∨ fmt = .d) (small : mag < 2 ^ magBits fmt) :
    fracField fmt (packSign fmt neg mag) = mag % 2 ^ (fmtPrec fmt - 1) := by
  rw [fracField, packSign_toNat float small, magBits, pow_add]
  cases neg
  · rfl
  · exact Nat.add_mul_mod_self_left ..

theorem signBit_packSign (float : fmt = .s ∨ fmt = .d) (small : mag < 2 ^ magBits fmt) :
    signBit fmt (packSign fmt neg mag) = neg := by
  rw [signBit, sign_place float, BitVec.getLsbD, packSign_toNat float small]
  cases neg
  · exact Nat.testBit_lt_two_pow small
  · rw [if_pos rfl, add_comm, Nat.testBit_two_pow_add_eq, Nat.testBit_lt_two_pow small]
    rfl

/-! ### Finite numbers -/

/-- A magnitude with exponent field 0 is denormalized (44_fpu_model.md R422). -/
theorem decodeNum_denormalized (float : fmt = .s ∨ fmt = .d) (small : n < 2 ^ (fmtPrec fmt - 1)) :
    decodeNum fmt (packSign fmt neg n) = .fin neg n (fmtEmin fmt - ((fmtPrec fmt : Int) - 1)) := by
  have fits : n < 2 ^ magBits fmt :=
    small.trans_le (Nat.pow_le_pow_right two_pos (Nat.le_add_right ..))
  have finite : 0 ≠ 2 ^ fmtExpBits fmt - 1 := by
    rcases float with rfl | rfl <;> decide
  simp only [decodeNum, expField_packSign float fits, fracField_packSign float fits,
    signBit_packSign float fits, Nat.div_eq_of_lt small, Nat.mod_eq_of_lt small, if_neg finite, if_true]

/-- A magnitude with exponent field `k + 1`, not that of infinity, is normalized (44_fpu_model.md R422). -/
theorem decodeNum_normalized (float : fmt = .s ∨ fmt = .d) {frac : Nat}
    (small : frac < 2 ^ (fmtPrec fmt - 1)) (range : k + 1 < 2 ^ fmtExpBits fmt - 1) :
    decodeNum fmt (packSign fmt neg (frac + 2 ^ (fmtPrec fmt - 1) * (k + 1))) =
      .fin neg (frac + 2 ^ (fmtPrec fmt - 1)) (fmtEmin fmt + k - ((fmtPrec fmt : Int) - 1)) := by
  have fits : frac + 2 ^ (fmtPrec fmt - 1) * (k + 1) < 2 ^ magBits fmt := by
    rw [magBits, pow_add]
    calc frac + 2 ^ (fmtPrec fmt - 1) * (k + 1)
        < 2 ^ (fmtPrec fmt - 1) * (k + 2) := by linarith
      _ ≤ _ := Nat.mul_le_mul_left _ (by omega)
  have exponent : (frac + 2 ^ (fmtPrec fmt - 1) * (k + 1)) / 2 ^ (fmtPrec fmt - 1) = k + 1 := by
    rw [Nat.add_mul_div_left _ _ (by positivity), Nat.div_eq_of_lt small, Nat.zero_add]
  have fraction : (frac + 2 ^ (fmtPrec fmt - 1) * (k + 1)) % 2 ^ (fmtPrec fmt - 1) = frac := by
    rw [Nat.add_mul_mod_self_left, Nat.mod_eq_of_lt small]
  have unbiased : ((k + 1 : Nat) : Int) - fmtEmax fmt = fmtEmin fmt + k := by
    rw [fmtEmin]
    push_cast
    ring
  simp only [decodeNum, expField_packSign float fits, fracField_packSign float fits,
    signBit_packSign float fits, exponent, fraction, if_neg range.ne, if_neg k.succ_ne_zero, unbiased]

theorem two_pow_prec (float : fmt = .s ∨ fmt = .d) : 2 ^ fmtPrec fmt = 2 * 2 ^ (fmtPrec fmt - 1) := by
  rcases float with rfl | rfl <;> rfl

/-- A significand `n` at the exponent `k` above the least one: normalized, or denormalized at the least. -/
theorem decodeNum_packSign (float : fmt = .s ∨ fmt = .d) (small : n < 2 ^ fmtPrec fmt)
    (placed : k = 0 ∨ 2 ^ (fmtPrec fmt - 1) ≤ n) (range : k + 1 < 2 ^ fmtExpBits fmt - 1) :
    decodeNum fmt (packSign fmt neg (k * 2 ^ (fmtPrec fmt - 1) + n)) =
      .fin neg n (fmtEmin fmt + k - ((fmtPrec fmt : Int) - 1)) := by
  by_cases normal : 2 ^ (fmtPrec fmt - 1) ≤ n
  · obtain ⟨frac, rfl⟩ := Nat.exists_eq_add_of_le' normal
    have frac_small : frac < 2 ^ (fmtPrec fmt - 1) := by
      rw [two_pow_prec float] at small
      omega
    rw [← decodeNum_normalized float frac_small range]
    ring_nf
  · obtain rfl := placed.resolve_right normal
    rw [zero_mul, zero_add, decodeNum_denormalized float (not_le.mp normal), Nat.cast_zero, add_zero]

end Sys2Proof.Machine
end

section
/-! PROOFS. What `Round` delivers (44_fpu_model.md R446 to R450, R455): the binade of the rounded magnitude says
whether it overflows, is the result, or is tiny. -/

namespace Sys2Proof.Machine

open Sys2Proof

variable {c : Config} {f : BitVec 32} {fmt : Fmt} {rm : BitVec 2} {neg rest inexact inexact' : Bool}
  {mant n n' N : Nat} {exp b q : Int} {r : Word} {v : ℚ}

theorem mul_two_zpow_sub (x : ℚ) (i j : Int) : x * 2 ^ (i - j) * 2 ^ j = x * 2 ^ i := by
  rw [mul_assoc, ← zpow_add₀ two_ne_zero, sub_add_cancel]

/-! ### Bounds of the rounded multiple -/

/-- Some value is what is rounded: not less than the magnitude given, and less than its next multiple. -/
theorem exists_magnitude (finer : rest = true → exp < q) :
    ∃ x, Magnitude mant exp rest q x ∧ mant * (2 : ℚ) ^ (exp - q) ≤ x ∧
      x < (mant + 1) * (2 : ℚ) ^ (exp - q) := by
  have unit : (0 : ℚ) < 2 ^ (exp - q) := by positivity
  cases rest with
  | false => exact ⟨_, rfl, le_rfl, mul_lt_mul_of_pos_right (lt_add_one _) unit⟩
  | true =>
    have above : mant * (2 : ℚ) ^ (exp - q) < (mant + 1 / 2) * 2 ^ (exp - q) :=
      mul_lt_mul_of_pos_right (by linarith) unit
    have below : (mant + 1 / 2) * (2 : ℚ) ^ (exp - q) < (mant + 1) * 2 ^ (exp - q) :=
      mul_lt_mul_of_pos_right (by linarith) unit
    exact ⟨_, ⟨finer rfl, above, below⟩, above.le, below⟩

theorem roundAt_le (finer : rest = true → exp < q) (high : (mant + 1) * (2 : ℚ) ^ exp ≤ N * 2 ^ q)
    (rounds : roundAt rm neg mant exp rest q = (n, inexact)) : n ≤ N := by
  obtain ⟨x, magnitude, -, below⟩ := exists_magnitude finer (mant := mant)
  obtain ⟨-, near, -⟩ := roundingToAMultiple rm neg mant exp q x rest n inexact magnitude rounds
  have units : (mant + 1) * (2 : ℚ) ^ (exp - q) ≤ N :=
    le_of_mul_le_mul_right (by rwa [mul_two_zpow_sub]) (zpow_pos two_pos q)
  have less : (n : ℚ) < N + 1 := by linarith [(abs_lt.mp near).2]
  exact Nat.lt_succ_iff.mp (by exact_mod_cast less)

theorem le_roundAt (finer : rest = true → exp < q) (low : N * (2 : ℚ) ^ q ≤ mant * 2 ^ exp)
    (rounds : roundAt rm neg mant exp rest q = (n, inexact)) : N ≤ n := by
  obtain ⟨x, magnitude, above, -⟩ := exists_magnitude finer (mant := mant)
  obtain ⟨-, near, -⟩ := roundingToAMultiple rm neg mant exp q x rest n inexact magnitude rounds
  have units : (N : ℚ) ≤ mant * 2 ^ (exp - q) :=
    le_of_mul_le_mul_right (by rwa [mul_two_zpow_sub]) (zpow_pos two_pos q)
  have less : (N : ℚ) < n + 1 := by linarith [(abs_lt.mp near).1]
  exact Nat.lt_succ_iff.mp (by exact_mod_cast less)

/-- What is not reported inexact is the magnitude itself. -/
theorem roundAt_exact (rounds : roundAt rm neg mant exp false q = (n, false)) :
    (n : ℚ) * 2 ^ q = mant * 2 ^ exp := by
  obtain ⟨exact_iff, -⟩ := roundingToAMultiple rm neg mant exp q _ false n false rfl rounds
  rw [exact_iff.mp rfl, mul_two_zpow_sub]

/-! ### The binade of the magnitude and of the rounded magnitude -/

/-- A magnitude in the binade of `2 ^ b` rounded to the precision of a format, as the statements say it. -/
structure Rounded (fmt : Fmt) (rm : BitVec 2) (neg : Bool) (mant : Nat) (exp b : Int) (rest : Bool)
    (n : Nat) (inexact : Bool) : Prop where
  long : rest = true → 2 ^ (fmtPrec fmt + 1) ≤ mant
  low : (2 : ℚ) ^ b ≤ mant * (2 : ℚ) ^ exp
  high : mant * (2 : ℚ) ^ exp < (2 : ℚ) ^ (b + 1)
  rounds : roundAt rm neg mant exp rest (b - (fmtPrec fmt - 1)) = (n, inexact)

theorem mant_ne_zero (low : (2 : ℚ) ^ b ≤ mant * (2 : ℚ) ^ exp) : mant ≠ 0 := by
  rintro rfl
  rw [Nat.cast_zero, zero_mul] at low
  exact (zpow_pos two_pos b).not_ge low

/-- The binade of a magnitude, from the bits of `mant`. -/
theorem binade_log2 (nonzero : mant ≠ 0) :
    (2 : ℚ) ^ (exp + Nat.log2 mant) ≤ mant * 2 ^ exp ∧
      (mant + 1) * (2 : ℚ) ^ exp ≤ 2 ^ (exp + Nat.log2 mant + 1) := by
  have low : ((2 ^ Nat.log2 mant : Nat) : ℚ) ≤ mant := by exact_mod_cast Nat.log2_self_le nonzero
  have high : (mant + 1 : ℚ) ≤ (2 ^ (Nat.log2 mant + 1) : Nat) := by
    exact_mod_cast Nat.succ_le_of_lt Nat.lt_log2_self
  have unit : (0 : ℚ) ≤ 2 ^ exp := by positivity
  constructor
  · calc (2 : ℚ) ^ (exp + Nat.log2 mant) = (2 ^ Nat.log2 mant : Nat) * 2 ^ exp := by
          rw [zpow_add₀ two_ne_zero, zpow_natCast, mul_comm]
          norm_cast
      _ ≤ _ := mul_le_mul_of_nonneg_right low unit
  · calc (mant + 1) * (2 : ℚ) ^ exp ≤ (2 ^ (Nat.log2 mant + 1) : Nat) * 2 ^ exp :=
          mul_le_mul_of_nonneg_right high unit
      _ = _ := by
          rw [add_assoc, zpow_add₀ two_ne_zero, mul_comm]
          norm_cast

theorem exists_rounded (long : rest = true → 2 ^ (fmtPrec fmt + 1) ≤ mant) (nonzero : mant ≠ 0) :
    ∃ b n inexact, Rounded fmt rm neg mant exp b rest n inexact := by
  obtain ⟨low, next⟩ := binade_log2 (exp := exp) nonzero
  have high := (mul_lt_mul_of_pos_right (lt_add_one (mant : ℚ)) (zpow_pos two_pos exp)).trans_le next
  obtain ⟨⟨n, inexact⟩, rounds⟩ : ∃ r,
    roundAt rm neg mant exp rest (exp + Nat.log2 mant - (fmtPrec fmt - 1)) = r := ⟨_, rfl⟩
  exact ⟨_, n, inexact, long, low, high, rounds⟩

namespace Rounded

variable (h : Rounded fmt rm neg mant exp b rest n inexact)

include h

theorem eq_log2 : b = exp + Nat.log2 mant := by
  obtain ⟨low, high⟩ := binade_log2 (exp := exp) (mant_ne_zero h.low)
  have le : b < exp + Nat.log2 mant + 1 := (zpow_lt_zpow_iff_right₀ one_lt_two).mp <| h.low.trans_lt <|
    (mul_lt_mul_of_pos_right (lt_add_one _) (zpow_pos two_pos exp)).trans_le high
  have ge : exp + Nat.log2 mant < b + 1 := (zpow_lt_zpow_iff_right₀ one_lt_two).mp (low.trans_lt h.high)
  omega

theorem eq_bitLength : exp + bitLength mant - 1 = b := by
  rw [bitLength, if_neg (mant_ne_zero h.low), h.eq_log2]
  push_cast
  ring

theorem next_le : (mant + 1) * (2 : ℚ) ^ exp ≤ 2 ^ (b + 1) := by
  rw [h.eq_log2]
  exact (binade_log2 (mant_ne_zero h.low)).2

/-- With a part beyond `mant` there are more bits than the precision keeps. -/
theorem finer (more : rest = true) : exp < b - (fmtPrec fmt - 1) := by
  have bits : fmtPrec fmt + 1 < Nat.log2 mant + 1 :=
    (Nat.pow_lt_pow_iff_right one_lt_two).mp ((h.long more).trans_lt Nat.lt_log2_self)
  rw [h.eq_log2]
  omega

end Rounded

/-- `2 ^ e` in units of the last place of a format. -/
theorem units_of_two_zpow (fmt : Fmt) (e : Int) :
    ((2 ^ (fmtPrec fmt - 1) : Nat) : ℚ) * 2 ^ (e - (fmtPrec fmt - 1)) = 2 ^ e := by
  have prec : (fmtPrec fmt : Int) - 1 = (fmtPrec fmt - 1 : Nat) := by cases fmt <;> rfl
  rw [prec, Nat.cast_pow, Nat.cast_ofNat, ← zpow_natCast, ← zpow_add₀ two_ne_zero]
  exact congrArg _ (by ring)

theorem units_of_next_zpow (float : fmt = .s ∨ fmt = .d) (e : Int) :
    ((2 ^ fmtPrec fmt : Nat) : ℚ) * 2 ^ (e - (fmtPrec fmt - 1)) = 2 ^ (e + 1) := by
  rw [zpow_add_one₀ two_ne_zero, ← units_of_two_zpow fmt e, two_pow_prec float]
  push_cast
  ring

/-- The binade of `n` units of `2 ^ (b - p + 1)`, a rounded magnitude of the binade of `2 ^ b`. -/
def roundedBinade (fmt : Fmt) (b : Int) (n : Nat) : Int := if n = 2 ^ fmtPrec fmt then b + 1 else b

/-- Its units in that binade. -/
def significand (fmt : Fmt) (n : Nat) : Nat := if n = 2 ^ fmtPrec fmt then 2 ^ (fmtPrec fmt - 1) else n

theorem significand_value (float : fmt = .s ∨ fmt = .d) :
    (significand fmt n : ℚ) * 2 ^ (roundedBinade fmt b n - (fmtPrec fmt - 1)) =
      n * 2 ^ (b - (fmtPrec fmt - 1)) := by
  unfold significand roundedBinade
  split
  · next carry => rw [carry, units_of_two_zpow, units_of_next_zpow float]
  · rfl

namespace Rounded

variable (h : Rounded fmt rm neg mant exp b rest n inexact)

include h

theorem le_units : 2 ^ (fmtPrec fmt - 1) ≤ n :=
  le_roundAt h.finer ((units_of_two_zpow fmt b).trans_le h.low) h.rounds

variable (float : fmt = .s ∨ fmt = .d)

include float

theorem units_le : n ≤ 2 ^ fmtPrec fmt :=
  roundAt_le h.finer (h.next_le.trans_eq (units_of_next_zpow float b).symm) h.rounds

theorem significand_bounds :
    2 ^ (fmtPrec fmt - 1) ≤ significand fmt n ∧ significand fmt n < 2 ^ fmtPrec fmt := by
  unfold significand
  split
  · rw [two_pow_prec float]
    exact ⟨le_rfl, lt_mul_left (by positivity) one_lt_two⟩
  · next no_carry => exact ⟨h.le_units, (h.units_le float).lt_of_ne no_carry⟩

theorem binade_bounds :
    (2 : ℚ) ^ roundedBinade fmt b n ≤ n * 2 ^ (b - (fmtPrec fmt - 1)) ∧
      n * (2 : ℚ) ^ (b - (fmtPrec fmt - 1)) < 2 ^ (roundedBinade fmt b n + 1) := by
  obtain ⟨low, high⟩ := h.significand_bounds float
  have unit : (0 : ℚ) < 2 ^ (roundedBinade fmt b n - (fmtPrec fmt - 1)) := by positivity
  rw [← significand_value float]
  constructor
  · rw [← units_of_two_zpow fmt (roundedBinade fmt b n)]
    exact mul_le_mul_of_nonneg_right (by exact_mod_cast low) unit.le
  · rw [← units_of_next_zpow float]
    exact mul_lt_mul_of_pos_right (by exact_mod_cast high) unit

end Rounded

/-! ### The delivery, by the binade -/

/-- The delivery of a tiny magnitude that rounds to `n` of the least denormalized number (R447, R448). -/
def tinyResult (c : Config) (f : BitVec 32) (fmt : Fmt) (neg : Bool) (n : Nat) (inexact : Bool) :
    Word × Conds :=
  if fcsrFlush f && n != 0 then (flushResult c fmt (fcsrRm f) neg, condU ||| condI)
  else
    (packSign fmt neg n,
      (if inexact || (fcsrEnables f &&& condU) != 0 then condU else condNone) |||
        if inexact then condI else condNone)

/-- The delivery of a magnitude in the range of the normal numbers, its significand `n` in the binade of
`2 ^ e`. -/
def normalResult (fmt : Fmt) (neg : Bool) (e : Int) (n : Nat) (inexact : Bool) : Word × Conds :=
  (packSign fmt neg ((e + fmtEmax fmt - 1).toNat * 2 ^ (fmtPrec fmt - 1) + n),
    if inexact then condI else condNone)

/-- `roundValue` on a magnitude that is not zero. -/
theorem Rounded.roundValue_eq (h : Rounded fmt (fcsrRm f) neg mant exp b rest n inexact)
    (tiny : roundAt (fcsrRm f) neg mant exp rest (fmtEmin fmt - (fmtPrec fmt - 1)) = (n', inexact')) :
    roundValue c f fmt neg mant exp rest =
      if fmtEmax fmt < roundedBinade fmt b n then
        (overflowResult fmt (fcsrRm f) neg, condO ||| condI)
      else if roundedBinade fmt b n < fmtEmin fmt then tinyResult c f fmt neg n' inexact'
      else normalResult fmt neg (roundedBinade fmt b n) (significand fmt n) inexact := by
  simp only [roundValue, if_neg (mant_ne_zero h.low), roundNonzero, h.eq_bitLength, h.rounds, tiny]
  rfl

namespace Rounded

variable (h : Rounded fmt (fcsrRm f) neg mant exp b rest n inexact) (float : fmt = .s ∨ fmt = .d)

include h float

theorem roundValue_overflow
    (big : (2 : ℚ) ^ ((fmtEmax fmt : Int) + 1) ≤ n * 2 ^ (b - (fmtPrec fmt - 1))) :
    roundValue c f fmt neg mant exp rest =
      (overflowResult fmt (fcsrRm f) neg, condO ||| condI) := by
  have above : (fmtEmax fmt : Int) + 1 < roundedBinade fmt b n + 1 :=
    (zpow_lt_zpow_iff_right₀ one_lt_two).mp (big.trans_lt (h.binade_bounds float).2)
  rw [h.roundValue_eq rfl, if_pos (by omega)]

theorem roundValue_normal (low : (2 : ℚ) ^ fmtEmin fmt ≤ n * 2 ^ (b - (fmtPrec fmt - 1)))
    (high : n * (2 : ℚ) ^ (b - (fmtPrec fmt - 1)) < 2 ^ ((fmtEmax fmt : Int) + 1)) :
    fmtEmin fmt ≤ roundedBinade fmt b n ∧ roundedBinade fmt b n ≤ fmtEmax fmt ∧
      roundValue c f fmt neg mant exp rest =
        normalResult fmt neg (roundedBinade fmt b n) (significand fmt n) inexact := by
  obtain ⟨binade_low, binade_high⟩ := h.binade_bounds float
  have not_tiny : fmtEmin fmt < roundedBinade fmt b n + 1 :=
    (zpow_lt_zpow_iff_right₀ one_lt_two).mp (low.trans_lt binade_high)
  have not_over : roundedBinade fmt b n < fmtEmax fmt + 1 :=
    (zpow_lt_zpow_iff_right₀ one_lt_two).mp (binade_low.trans_lt high)
  refine ⟨by omega, by omega, ?_⟩
  rw [h.roundValue_eq rfl, if_neg (by omega), if_neg (by omega)]

theorem binade_lt_of_tiny (tiny : n * (2 : ℚ) ^ (b - (fmtPrec fmt - 1)) < 2 ^ fmtEmin fmt) :
    b < fmtEmin fmt ∧ roundedBinade fmt b n < fmtEmin fmt := by
  have rounded : roundedBinade fmt b n < fmtEmin fmt :=
    (zpow_lt_zpow_iff_right₀ one_lt_two).mp ((h.binade_bounds float).1.trans_lt tiny)
  refine ⟨lt_of_le_of_lt ?_ rounded, rounded⟩
  unfold roundedBinade
  split <;> omega

theorem roundValue_tiny (tiny : n * (2 : ℚ) ^ (b - (fmtPrec fmt - 1)) < 2 ^ fmtEmin fmt)
    (rounds : roundAt (fcsrRm f) neg mant exp rest (fmtEmin fmt - (fmtPrec fmt - 1)) = (n', inexact')) :
    n' ≤ 2 ^ (fmtPrec fmt - 1) ∧
      roundValue c f fmt neg mant exp rest = tinyResult c f fmt neg n' inexact' := by
  obtain ⟨below, rounded_below⟩ := h.binade_lt_of_tiny float tiny
  constructor
  · refine roundAt_le (fun more => (h.finer more).trans (by omega)) ?_ rounds
    rw [units_of_two_zpow]
    exact h.next_le.trans (zpow_le_zpow_right₀ one_le_two (by omega))
  · have not_over : ¬(fmtEmax fmt : Int) < roundedBinade fmt b n := by
      rcases float with rfl | rfl <;> simp only [fmtEmin, fmtEmax] at rounded_below ⊢ <;> omega
    rw [h.roundValue_eq rounds, if_neg not_over, if_pos rounded_below]

end Rounded

/-! ### What the delivered patterns stand for -/

/-- The pattern `r` is a finite number of sign `neg` and magnitude `v`. -/
def StandsFor (fmt : Fmt) (r : Word) (neg : Bool) (v : ℚ) : Prop :=
  signBit fmt r = neg ∧ (decodeNum fmt r).isFinite = true ∧
    (decodeNum fmt r).toRat = (if neg then -1 else 1) * v

theorem standsFor_of_decodeNum (h : decodeNum fmt r = .fin neg n exp) :
    StandsFor fmt r neg (n * 2 ^ exp) := by
  refine ⟨signBit_of_fin h, h ▸ rfl, ?_⟩
  rw [h, Num.toRat, mul_assoc]

theorem normalResult_standsFor (float : fmt = .s ∨ fmt = .d) {e : Int} (low : fmtEmin fmt ≤ e)
    (high : e ≤ fmtEmax fmt) (normalized : 2 ^ (fmtPrec fmt - 1) ≤ n) (small : n < 2 ^ fmtPrec fmt) :
    StandsFor fmt (normalResult fmt neg e n inexact).1 neg (n * 2 ^ (e - (fmtPrec fmt - 1))) := by
  obtain ⟨k, hk⟩ := Int.eq_ofNat_of_zero_le (sub_nonneg.mpr low)
  have exponent : (e + fmtEmax fmt - 1).toNat = k := by
    unfold fmtEmin at hk
    omega
  have range : k + 1 < 2 ^ fmtExpBits fmt - 1 := by
    rcases float with rfl | rfl <;> simp only [fmtEmin, fmtEmax, fmtExpBits] at hk high ⊢ <;> omega
  have number := decodeNum_packSign (neg := neg) float small (.inr normalized) range
  rw [← hk, add_sub_cancel] at number
  rw [normalResult, exponent]
  exact standsFor_of_decodeNum number

theorem packSign_standsFor (float : fmt = .s ∨ fmt = .d) (small : n ≤ 2 ^ (fmtPrec fmt - 1)) :
    StandsFor fmt (packSign fmt neg n) neg (n * 2 ^ (fmtEmin fmt - (fmtPrec fmt - 1))) := by
  have fits : n < 2 ^ fmtPrec fmt := small.trans_lt (by rcases float with rfl | rfl <;> decide)
  have range : 0 + 1 < 2 ^ fmtExpBits fmt - 1 := by rcases float with rfl | rfl <;> decide
  have number := decodeNum_packSign (neg := neg) float fits (.inl rfl) range
  rw [zero_mul, zero_add, Nat.cast_zero, add_zero] at number
  exact standsFor_of_decodeNum number

theorem fpZero_standsFor (float : fmt = .s ∨ fmt = .d) : StandsFor fmt (fpZero fmt neg) neg 0 := by
  simpa [fpZero] using packSign_standsFor (neg := neg) float (Nat.zero_le _)

theorem fpMinNormal_standsFor (float : fmt = .s ∨ fmt = .d) :
    StandsFor fmt (fpMinNormal fmt neg) neg (2 ^ fmtEmin fmt) := by
  rw [← units_of_two_zpow]
  exact packSign_standsFor float le_rfl

theorem flushResult_standsFor (float : fmt = .s ∨ fmt = .d) :
    StandsFor fmt (flushResult c fmt rm neg) neg
      (if (rm, neg) ∈ c.flushToMin then 2 ^ fmtEmin fmt else 0) := by
  simp only [flushResult, List.contains_iff_mem]
  split
  · exact fpMinNormal_standsFor float
  · exact fpZero_standsFor float

/-- The result of a tiny magnitude that is flushed (R447, log 17). -/
theorem tinyResult_flushed (flush : fcsrFlush f = true ∧ n ≠ 0) :
    tinyResult c f fmt neg n inexact = (flushResult c fmt (fcsrRm f) neg, 0b000011#6) := by
  obtain ⟨set, nonzero⟩ := flush
  exact if_pos (by simp [set, nonzero])

/-- The result of a tiny magnitude that is not flushed (R448). -/
theorem tinyResult_kept (keep : ¬(fcsrFlush f = true ∧ n ≠ 0)) :
    tinyResult c f fmt neg n inexact =
      (packSign fmt neg n,
        if inexact = true then 0b000011#6
        else if (fcsrEnables f).getLsbD 1 = true then 0b000010#6 else 0) := by
  have underflow_enabled : ∀ e : Conds, ((e &&& condU) != 0) = e.getLsbD 1 := by decide
  rw [tinyResult, if_neg (by simpa using keep), underflow_enabled]
  cases inexact <;> cases (fcsrEnables f).getLsbD 1 <;> rfl

namespace Rounded

variable (h : Rounded fmt (fcsrRm f) neg mant exp b rest n inexact) (float : fmt = .s ∨ fmt = .d)

include h float

/-- In the range of the normal numbers the rounded magnitude is the result. -/
theorem delivers_normal (low : (2 : ℚ) ^ fmtEmin fmt ≤ n * 2 ^ (b - (fmtPrec fmt - 1)))
    (high : n * (2 : ℚ) ^ (b - (fmtPrec fmt - 1)) < 2 ^ ((fmtEmax fmt : Int) + 1)) :
    StandsFor fmt (roundValue c f fmt neg mant exp rest).1 neg (n * 2 ^ (b - (fmtPrec fmt - 1))) ∧
      (roundValue c f fmt neg mant exp rest).2 = if inexact then condI else condNone := by
  obtain ⟨normal, finite, delivered⟩ := h.roundValue_normal (c := c) float low high
  obtain ⟨normalized, small⟩ := h.significand_bounds float
  rw [delivered, ← significand_value float]
  exact ⟨normalResult_standsFor float normal finite normalized small, rfl⟩

/-- Below it the delivery is `tinyResult`. -/
theorem delivers_tiny (tiny : n * (2 : ℚ) ^ (b - (fmtPrec fmt - 1)) < 2 ^ fmtEmin fmt)
    (rounds : roundAt (fcsrRm f) neg mant exp rest (fmtEmin fmt - (fmtPrec fmt - 1)) = (n', inexact')) :
    if fcsrFlush f = true ∧ n' ≠ 0 then
      StandsFor fmt (roundValue c f fmt neg mant exp rest).1 neg
          (if (fcsrRm f, neg) ∈ c.flushToMin then 2 ^ fmtEmin fmt else 0) ∧
        (roundValue c f fmt neg mant exp rest).2 = 0b000011#6
    else
      StandsFor fmt (roundValue c f fmt neg mant exp rest).1 neg
          (n' * 2 ^ (fmtEmin fmt - (fmtPrec fmt - 1))) ∧
        (roundValue c f fmt neg mant exp rest).2 =
          if inexact' = true then 0b000011#6
          else if (fcsrEnables f).getLsbD 1 = true then 0b000010#6 else 0 := by
  obtain ⟨small, delivered⟩ := h.roundValue_tiny (c := c) float tiny rounds
  rw [delivered]
  split
  · next flush =>
    rw [tinyResult_flushed flush]
    exact ⟨flushResult_standsFor float, rfl⟩
  · next keep =>
    rw [tinyResult_kept keep]
    exact ⟨packSign_standsFor float small, rfl⟩

end Rounded

/-! ### The statements -/

/-- A delivery without Inexact is exact: an overflow and a flush raise it (R447, R449, R450). -/
theorem roundValue_exact (float : fmt = .s ∨ fmt = .d) (nonzero : mant ≠ 0)
    (no_inexact : (roundValue c f fmt neg mant exp false).2 &&& condI = 0) :
    StandsFor fmt (roundValue c f fmt neg mant exp false).1 neg (mant * 2 ^ exp) := by
  obtain ⟨b, n, inexact, h⟩ := exists_rounded (fmt := fmt) (rm := fcsrRm f) (neg := neg) (exp := exp)
    (rest := false) nofun nonzero
  rcases lt_or_ge ((n : ℚ) * 2 ^ (b - (fmtPrec fmt - 1))) (2 ^ fmtEmin fmt) with tiny | not_tiny
  · obtain ⟨⟨n', inexact'⟩, rounds⟩ : ∃ r,
      roundAt (fcsrRm f) neg mant exp false (fmtEmin fmt - (fmtPrec fmt - 1)) = r := ⟨_, rfl⟩
    have delivered := h.delivers_tiny (c := c) float tiny rounds
    split at delivered
    · obtain ⟨-, conds⟩ := delivered
      rw [conds] at no_inexact
      exact absurd no_inexact (by decide)
    · obtain ⟨number, conds⟩ := delivered
      cases inexact' with
      | true =>
        rw [conds, if_pos rfl] at no_inexact
        exact absurd no_inexact (by decide)
      | false => rwa [roundAt_exact rounds] at number
  · rcases lt_or_ge ((n : ℚ) * 2 ^ (b - (fmtPrec fmt - 1))) (2 ^ ((fmtEmax fmt : Int) + 1)) with high | big
    · obtain ⟨number, conds⟩ := h.delivers_normal (c := c) float not_tiny high
      cases inexact with
      | true =>
        rw [conds, if_pos rfl] at no_inexact
        exact absurd no_inexact (by decide)
      | false => rwa [roundAt_exact h.rounds] at number
    · rw [h.roundValue_overflow float big] at no_inexact
      exact absurd (show (condO ||| condI) &&& condI = 0 from no_inexact) (by decide)

/-- Settles O54: the exact delivery, the zero, then the normal and the tiny results. -/
theorem resultIsExactUnlessInexact : Obligations.ResultIsExactUnlessInexact := by
  refine ⟨?exact, fun c f fmt neg exp _ => rfl, ?rounded⟩
  case exact =>
    intro c f fmt neg mant exp r e float delivers no_inexact
    rw [Num.toRat, mul_assoc]
    by_cases zero : mant = 0
    · subst zero
      obtain rfl : fpZero fmt neg = r := congrArg Prod.fst delivers
      simpa using (fpZero_standsFor (neg := neg) float).2
    · obtain ⟨-, finite, value⟩ := roundValue_exact (c := c) (f := f) (neg := neg) (exp := exp) float zero
        (by rwa [delivers])
      rw [delivers] at finite value
      exact ⟨finite, value⟩
  case rounded =>
    intro c f fmt neg mant exp b rest n inexact float long low high rounds
    have h : Rounded fmt (fcsrRm f) neg mant exp b rest n inexact := ⟨long, low, high, rounds⟩
    refine ⟨fun not_tiny not_over => ?_, fun tiny n' inexact' rounds' => ?_⟩
    · obtain ⟨⟨sign, finite, value⟩, conds⟩ := h.delivers_normal (c := c) float not_tiny not_over
      exact ⟨sign, finite, value, conds⟩
    · have delivered := h.delivers_tiny (c := c) float tiny rounds'
      split at delivered
      · next flush =>
        obtain ⟨⟨sign, finite, value⟩, conds⟩ := delivered
        rw [if_pos flush]
        exact ⟨sign, finite, by simpa [mul_ite] using value, conds⟩
      · next keep =>
        obtain ⟨⟨sign, finite, value⟩, conds⟩ := delivered
        rw [if_neg keep]
        exact ⟨sign, finite, value, conds⟩

/-- The magnitude itself at 2^(E_max + 1) or more overflows, rounded or not (R446). -/
theorem Rounded.overflows (h : Rounded fmt rm neg mant exp b rest n inexact)
    (big : (2 : ℚ) ^ ((fmtEmax fmt : Int) + 1) ≤ mant * 2 ^ exp) :
    (2 : ℚ) ^ ((fmtEmax fmt : Int) + 1) ≤ n * 2 ^ (b - (fmtPrec fmt - 1)) := by
  have above : (fmtEmax fmt : Int) + 1 < b + 1 := (zpow_lt_zpow_iff_right₀ one_lt_two).mp (big.trans_lt h.high)
  calc (2 : ℚ) ^ ((fmtEmax fmt : Int) + 1) ≤ 2 ^ b := zpow_le_zpow_right₀ one_le_two (by omega)
    _ = (2 ^ (fmtPrec fmt - 1) : Nat) * 2 ^ (b - (fmtPrec fmt - 1)) := (units_of_two_zpow fmt b).symm
    _ ≤ _ := mul_le_mul_of_nonneg_right (by exact_mod_cast h.le_units) (by positivity)

/-- Settles O58: what overflows, then the default result of each rounding mode. -/
theorem overflowResults : Obligations.OverflowResults := by
  intro c f fmt neg mant exp b rest n inexact float long low high rounds big
  have h : Rounded fmt (fcsrRm f) neg mant exp b rest n inexact := ⟨long, low, high, rounds⟩
  refine ⟨_, h.roundValue_overflow float (big.elim h.overflows id), ?_⟩
  refine ⟨?_, ?_, ?_, ?_⟩ <;> intro mode <;> rw [mode] <;> rfl

end Sys2Proof.Machine
end

section
/-! SUPPORT. Transfers into coprocessor 1 registers (45_fpu_transfer.md R470, R471, R480, R482): what they
leave unchanged, what the register and its tag hold afterwards, and how an instruction ends with one. -/

namespace Sys2Proof.Machine

open Sys2Proof

variable {i : Instr} {s t u : State} {w : Footprint} {post : State → Prop} {n : RegNum} {c : Reg}

/-! ### The middle of an instruction -/

/-- From `s` to `t`, in the middle of an instruction, nothing outside the footprint has changed, nor what
its ending reads. -/
structure Underway (s t : State) (w : Footprint) : Prop where
  frame : Frame s t w
  npc : t.npc = s.npc
  hiRd : t.hiRd = s.hiRd
  loRd : t.loRd = s.loRd

theorem Underway.refl (bytes : w.bytes = []) : Underway s s w := ⟨.refl bytes, rfl, rfl, rfl⟩

theorem Underway.disturbLink (h : Underway s t w) (recorded : t.llBit = true → w.llBit = true) :
    Underway s t.disturbLink w where
  frame := h.frame.disturbLink recorded
  npc := (State.disturbLink_npc t).trans h.npc
  hiRd := (State.disturbLink_hiRd t).trans h.hiRd
  loRd := (State.disturbLink_loRd t).trans h.loRd

theorem Underway.completes (h : Underway s t w) (runs : exec i s = .next t.complete)
    (effect : post t.complete) : Completes i s w post :=
  completes_of_exec runs h.frame effect h.npc h.hiRd h.loRd

/-! ### What a transfer leaves unchanged -/

theorem State.fprIndex_of_cfg (cfg : t.cfg = s.cfg) (n : RegNum) : t.fprIndex n = s.fprIndex n := by
  rw [State.fprIndex, State.fprIndex, cfg]

theorem State.fprRegs_of_cfg (cfg : t.cfg = s.cfg) (n : RegNum) : t.fprRegs n = s.fprRegs n := by
  rw [State.fprRegs, State.fprRegs, cfg]

theorem State.validFpr_of_cfg (cfg : t.cfg = s.cfg) (n : RegNum) : t.validFpr n = s.validFpr n := by
  rw [State.validFpr, State.validFpr, cfg]

theorem Underway.loadFgrWord (h : Underway s t w) (c : Reg) (reg : n ∈ w.fgrs)
    (tag : s.fprIndex n ∈ w.tags) : Underway s (t.loadFgrWord n c) w where
  frame := (h.frame.putF _ reg).setTag _ (State.fprIndex_of_cfg h.frame.cfg n ▸ tag)
  npc := (State.loadFgrWord_npc ..).trans h.npc
  hiRd := (State.loadFgrWord_hiRd ..).trans h.hiRd
  loRd := (State.loadFgrWord_loRd ..).trans h.loRd

/-- A doubleword goes to one register, or to both registers of a pair. -/
theorem Frame.loadFprDouble (h : Frame s t w) (c : Reg) (regs : ∀ m ∈ t.fprRegs n, m ∈ w.fgrs)
    (tag : t.fprIndex n ∈ w.tags) : Frame s (t.loadFprDouble n c) w := by
  cases model : t.cfg.fgr64 with
  | true =>
    rw [State.loadFprDouble, if_pos (State.validFpr_single model), State.putFprDouble, if_pos model]
    exact (h.putF _ (regs n (by simp [State.fprRegs, model]))).setTag _ tag
  | false =>
    have narrow : ¬t.cfg.fgr64 = true := Bool.eq_false_iff.mp model
    have even_listed : n ∈ w.fgrs := regs n (by simp [State.fprRegs, model])
    have odd_listed : n ^^^ 1 ∈ w.fgrs := regs _ (by simp [State.fprRegs, model])
    rw [State.loadFprDouble]
    split
    · next valid =>
      rw [State.putFprDouble, if_neg narrow, or_one_of_even n ((State.validFpr_pair model).mp valid)]
      exact ((h.putF _ even_listed).putF _ odd_listed).setTag _ tag
    · exact ((h.putF _ even_listed).putF _ odd_listed).setTag _ tag

theorem Underway.loadFprDouble (h : Underway s t w) (c : Reg) (regs : ∀ m ∈ s.fprRegs n, m ∈ w.fgrs)
    (tag : s.fprIndex n ∈ w.tags) : Underway s (t.loadFprDouble n c) w where
  frame := by
    have cfg := h.frame.cfg
    exact h.frame.loadFprDouble c (State.fprRegs_of_cfg cfg n ▸ regs) (State.fprIndex_of_cfg cfg n ▸ tag)
  npc := (State.loadFprDouble_npc ..).trans h.npc
  hiRd := (State.loadFprDouble_hiRd ..).trans h.hiRd
  loRd := (State.loadFprDouble_loRd ..).trans h.loRd

/-! ### What a transferred word leaves -/

theorem State.loadFgrWord_cell (n : RegNum) (c : Reg) :
    (s.loadFgrWord n c).fgr[n.toNat] =
      { val := c.val &&& lowHalf
        undef := c.undef &&& lowHalf ||| if s.cfg.fgr64 then highHalf else 0 } := by
  simp only [State.loadFgrWord, State.setTag_fgr]
  exact State.putF_fgr_same ..

/-- The low word of the register is that of the cell, in either register model. -/
theorem State.fgrLow_loadFgrWord (n : RegNum) (c : Reg) :
    (s.loadFgrWord n c).fgrLow n = { val := c.val &&& lowHalf, undef := c.undef &&& lowHalf } := by
  have rest_is_high : (if s.cfg.fgr64 then highHalf else 0) &&& lowHalf = 0 := by
    split <;> decide
  rw [State.fgrLow, State.loadFgrWord_cell]
  simp only [BitVec.and_or_distrib_right, rest_is_high, BitVec.and_assoc, BitVec.and_self]
  exact congrArg (Reg.mk _) BitVec.or_zero

theorem State.tag_loadFgrWord (strict : s.cfg.fprTags = .strict) (n : RegNum) (c : Reg) :
    (s.loadFgrWord n c).tag n = .uninterpreted := by
  rw [State.loadFgrWord]
  refine State.tag_setTag ?_ _
  exact strict

/-- A defined word leaves exactly the high half of a 64-bit register undefined. -/
theorem Reg.of_undef_or_highHalf (v : Word) : (Reg.of v).undef &&& lowHalf ||| highHalf = highHalf := by
  show 0 &&& lowHalf ||| highHalf = highHalf
  decide

/-- `UNDEF` leaves an undefined low word, and all of a 64-bit register undefined. -/
theorem Reg.low_unknown :
    Reg.mk (Reg.unknown.val &&& lowHalf) (Reg.unknown.undef &&& lowHalf) =
      { val := 0, undef := lowHalf } := by
  decide

theorem Reg.unknown_undef_or_highHalf :
    Reg.unknown.undef &&& lowHalf ||| highHalf = BitVec.allOnes 64 := by
  decide

/-! ### What a transferred doubleword leaves -/

/-- The words of a pair make up the doubleword, its undefined bits included (10_state.md R42). -/
theorem fgrPair_of_halves (even : n.getLsbD 0 = false)
    (low : t.fgr[n.toNat] = { val := c.val &&& lowHalf, undef := c.undef &&& lowHalf })
    (high : t.fgr[(n ^^^ 1).toNat] = { val := c.val >>> 32, undef := c.undef >>> 32 }) :
    t.fgrPair n = c := by
  rw [State.fgrPair, or_one_of_even n even, State.fgrLow, State.fgrLow, low, high]
  simp only [BitVec.and_assoc, BitVec.and_self, join_halves]

theorem State.fprDouble_loadFprDouble (valid : s.validFpr n = true) (c : Reg) :
    (s.loadFprDouble n c).fprDouble n = c := by
  have still_valid : (s.loadFprDouble n c).validFpr n = true :=
    (State.validFpr_of_cfg (State.loadFprDouble_cfg ..) n).trans valid
  rw [State.fprDouble, still_valid, State.loadFprDouble_cfg, State.loadFprDouble, if_pos valid,
    State.putFprDouble]
  cases model : s.cfg.fgr64 with
  | true =>
    simp only [if_true, State.setTag_fgr]
    exact State.putF_fgr_same ..
  | false =>
    have even := (State.validFpr_pair model).mp valid
    simp only [Bool.false_eq_true, if_false, if_true, or_one_of_even n even]
    refine fgrPair_of_halves even ?_ ?_
    · simp only [State.setTag_fgr]
      exact (State.putF_fgr_of_ne _ (xor_one_ne n).symm).trans (State.putF_fgr_same ..)
    · simp only [State.setTag_fgr]
      exact State.putF_fgr_same ..

theorem State.tag_loadFprDouble (strict : s.cfg.fprTags = .strict) (valid : s.validFpr n = true)
    (c : Reg) : (s.loadFprDouble n c).tag n = .uninterpreted := by
  rw [State.loadFprDouble, if_pos valid]
  exact State.tag_setTag ((congrArg Config.fprTags (State.putFprDouble_cfg ..)).trans strict) _

/-- An invalid number is treated as the destination of a result is (44_fpu_model.md R433, log 26). -/
theorem State.loadFprDouble_invalid (invalid : s.validFpr n = false) (c : Reg) (fmt : Fmt) (v : Word) :
    s.loadFprDouble n c = s.storeFpr n fmt v :=
  (if_neg (Bool.eq_false_iff.mp invalid)).trans (State.storeFpr_invalid invalid).symm

/-! ### The endings -/

/-- An instruction that ends with a word put into a coprocessor 1 register: the low word is the cell's, the
rest of a 64-bit register undefined (45_fpu_transfer.md R470, R480). -/
theorem Underway.completes_word (h : Underway s t w) {low : Reg} {undef : Word}
    (runs : exec i s = .next (t.loadFgrWord n c).complete) (reg : n ∈ w.fgrs)
    (tag : s.fprIndex n ∈ w.tags)
    (word : { val := c.val &&& lowHalf, undef := c.undef &&& lowHalf } = low)
    (rest : c.undef &&& lowHalf ||| highHalf = undef) :
    Completes i s w fun t =>
      t.fgrLow n = low ∧ (s.cfg.fgr64 = true → t.fgr[n.toNat].undef = undef) ∧
        (s.cfg.fprTags = .strict → t.tag n = .uninterpreted) := by
  refine (h.loadFgrWord c reg tag).completes runs
    ⟨(State.fgrLow_loadFgrWord n c).trans word, fun single => ?_, fun strict => ?_⟩
  · show (t.loadFgrWord n c).fgr[n.toNat].undef = undef
    rw [State.loadFgrWord_cell, h.frame.cfg, if_pos single]
    exact rest
  · exact State.tag_loadFgrWord ((congrArg Config.fprTags h.frame.cfg).trans strict) n c

/-- An instruction that ends with a doubleword put into an FPR (45_fpu_transfer.md R471, R482). -/
theorem Underway.completes_double (h : Underway s t w)
    (runs : exec i s = .next (t.loadFprDouble n c).complete) (regs : ∀ m ∈ s.fprRegs n, m ∈ w.fgrs)
    (tag : s.fprIndex n ∈ w.tags) :
    Completes i s w fun t =>
      if s.validFpr n then
        t.fprDouble n = c ∧ (s.cfg.fprTags = .strict → t.tag n = .uninterpreted)
      else t.FprResult n .d 0 := by
  refine (h.loadFprDouble c regs tag).completes runs ?_
  rw [← State.validFpr_of_cfg h.frame.cfg n]
  split
  · next valid =>
    refine ⟨State.fprDouble_loadFprDouble valid c, fun strict => ?_⟩
    exact State.tag_loadFprDouble ((congrArg Config.fprTags h.frame.cfg).trans strict) valid c
  · next not_valid =>
    rw [State.loadFprDouble_invalid (Bool.eq_false_iff.mpr not_valid) c .d 0]
    exact State.storeFpr_result t n .d 0

end Sys2Proof.Machine
end

section
/-! PROOFS. The moves between general and coprocessor 1 registers (45_fpu_transfer.md R479 to R482). -/

namespace Sys2Proof.Machine

open Sys2Proof

/-- Settles O42: a move to a general register by the value read, one from it by the cell it leaves. -/
theorem fpRegisterMoves : Obligations.FpRegisterMoves := by
  intro s rt fs cu1
  have usable {k : Result} : s.withCu1 k = k := State.withCu1_usable cu1
  refine ⟨?mfc1, fun valid => ?dmfc1, fun invalid => ?dmfc1_invalid, ?mtc1, ?dmtc1⟩
  case mfc1 =>
    refine writesX_of_writeX (v := wordResult (lowWord (s.fgrWord .fs fs))) usable ?_
    exact toInt_signExtend_setWidth _ (by decide)
  case dmfc1 => exact writesX_of_writeX (usable.trans (by rw [if_pos valid]; rfl)) rfl
  case dmfc1_invalid =>
    exact undefinesX_of_undefX (usable.trans (by rw [if_neg (Bool.eq_false_iff.mp invalid)]))
  case mtc1 =>
    exact (Underway.refl rfl).completes_word usable List.mem_cons_self List.mem_cons_self
      (Reg.low_of _) (Reg.of_undef_or_highHalf _)
  case dmtc1 => exact (Underway.refl rfl).completes_double usable (fun _ => id) List.mem_cons_self

end Sys2Proof.Machine
end

section
/-! PROOFS. The control registers (45_fpu_transfer.md R483, R484): what they read as, and when the value
written to the FCSR traps. -/

namespace Sys2Proof.Machine

open Sys2Proof

variable {s : State} {f : BitVec 32}

/-- FIR is a positive word, its fields the two low bytes (10_state.md R45). -/
theorem toNat_wordResult_fir (s : State) :
    (wordResult s.fir).toNat = s.cfg.firImp.toNat * 2 ^ 8 + s.cfg.firRev.toNat := by
  have value : s.fir.toNat = s.cfg.firImp.toNat * 2 ^ 8 + s.cfg.firRev.toNat := by
    rw [State.fir, toNat_append_eq_add, toNat_append_eq_add, BitVec.toNat_ofNat]
    omega
  have positive : s.fir.msb = false := by
    rw [BitVec.msb_eq_false_iff_two_mul_lt, value]
    omega
  rw [wordResult, BitVec.signExtend_eq_setWidth_of_msb_false positive, BitVec.toNat_setWidth, value]
  omega

/-! ### When the FCSR traps -/

/-- Two sets of conditions meet in a condition they share. -/
theorem meet_ne_zero_iff (c d : Conds) :
    (c &&& d) ≠ 0 ↔ ∃ k < 6, c.getLsbD k = true ∧ d.getLsbD k = true := by
  constructor
  · intro meets
    by_contra apart
    refine meets (BitVec.eq_of_getLsbD_eq fun k hk => ?_)
    have not_both : ¬(c.getLsbD k && d.getLsbD k) = true := fun both =>
      apart ⟨k, hk, (Bool.and_eq_true_iff).mp both⟩
    rw [BitVec.getLsbD_and, Bool.eq_false_iff.mpr not_both]
    exact BitVec.getLsbD_zero.symm
  · rintro ⟨k, -, hc, hd⟩ zero
    have bit : (c &&& d).getLsbD k = true := by rw [BitVec.getLsbD_and, hc, hd]; rfl
    exact absurd (zero ▸ bit) (Bool.eq_false_iff.mp BitVec.getLsbD_zero)

theorem getLsbD_fcsrCause {k : Nat} (hk : k < 6) : (fcsrCause f).getLsbD k = f.getLsbD (12 + k) := by
  simp [fcsrCause, hk]

theorem getLsbD_fcsrEnables {k : Nat} :
    (fcsrEnables f).getLsbD k = (decide (k < 5) && f.getLsbD (7 + k)) := by
  rw [fcsrEnables, BitVec.getLsbD_append]
  split
  · next hk => simp [hk]
  · next hk => simp [hk]

/-- The FCSR's own cause field traps by E, or by a condition that is enabled (10_state.md R51). -/
theorem fpTraps_fcsrCause_iff :
    fpTraps f (fcsrCause f) = true ↔
      f.getLsbD 17 = true ∨ ∃ k < 5, f.getLsbD (12 + k) = true ∧ f.getLsbD (7 + k) = true := by
  rw [fpTraps, Bool.or_eq_true, bne_iff_ne, meet_ne_zero_iff, getLsbD_fcsrCause (by decide)]
  refine or_congr_right ⟨?_, ?_⟩
  · rintro ⟨k, hk, cause, enabled⟩
    rw [getLsbD_fcsrEnables, Bool.and_eq_true, decide_eq_true_eq] at enabled
    exact ⟨k, enabled.1, getLsbD_fcsrCause hk ▸ cause, enabled.2⟩
  · rintro ⟨k, hk, cause, enabled⟩
    refine ⟨k, by omega, ?_, ?_⟩
    · rwa [getLsbD_fcsrCause (by omega)]
    · simp [getLsbD_fcsrEnables, hk, enabled]

/-- The cause field and the enables are writable (10_state.md R46). -/
theorem getLsbD_and_fcsrWritable {k : Nat} (above : 7 ≤ k) (below : k ≤ 17) :
    (f &&& fcsrWritable).getLsbD k = f.getLsbD k := by
  have writable : ∀ j : Fin 18, 7 ≤ j.val → fcsrWritable.getLsbD j.val = true := by decide
  rw [BitVec.getLsbD_and, writable ⟨k, by omega⟩ above, Bool.and_true]

theorem fpTraps_written_iff :
    fpTraps (f &&& fcsrWritable) (fcsrCause (f &&& fcsrWritable)) = true ↔
      f.getLsbD 17 = true ∨ ∃ k < 5, f.getLsbD (12 + k) = true ∧ f.getLsbD (7 + k) = true := by
  rw [fpTraps_fcsrCause_iff, getLsbD_and_fcsrWritable (by decide) (by decide)]
  refine or_congr_right (exists_congr fun k => and_congr_right fun hk => ?_)
  rw [getLsbD_and_fcsrWritable (by omega) (by omega), getLsbD_and_fcsrWritable (by omega) (by omega)]

/-! ### The statement -/

/-- CTC1 of the FCSR, once the unit is usable (45_fpu_transfer.md R484). -/
theorem exec_ctc1_fcsr (usable : s.cfg.cu1 = true) (rt : RegNum) :
    exec (.ctc1 rt 31) s =
      let f := lowWord (s.x .rt rt) &&& fcsrWritable
      if fpTraps f (fcsrCause f) then .next ({ s with fcsr := f }.raise .floatingPoint)
      else .next { s with fcsr := f }.complete :=
  State.withCu1_usable usable

theorem Frame.withFcsr {t : State} {w : Footprint} (h : Frame s t w) (f : BitVec 32)
    (fcsr : w.fcsr = true) : Frame s { t with fcsr := f } w :=
  { h with fcsr := fun kept => by simp [fcsr] at kept }

/-- Settles O45: what each register reads as, then the write of the FCSR by whether it traps. -/
theorem controlRegisters : Obligations.ControlRegisters := by
  intro s rt fs f cu1
  have usable {k : Result} : s.withCu1 k = k := State.withCu1_usable cu1
  refine ⟨?fir, ?fcsr, fun not_fir not_fcsr => ?other, fun low => ⟨fun no_e no_enabled => ?writes,
    fun traps => ?traps⟩, fun not_fcsr => ?ignored⟩
  case fir => exact writesX_of_writeX usable (toNat_wordResult_fir s)
  case fcsr => exact writesX_of_writeX usable (toInt_wordResult s.fcsr)
  case other =>
    exact undefinesX_of_undefX (usable.trans (by rw [if_neg not_fir, if_neg not_fcsr]))
  case writes =>
    obtain rfl : f = lowWord (s.x .rt rt) := BitVec.eq_of_toNat_eq (low.trans (toNat_lowWord _).symm)
    have quiet : ¬fpTraps _ _ = true := mt fpTraps_written_iff.mp fun traps =>
      traps.elim (Bool.eq_false_iff.mp no_e) fun ⟨k, hk, enabled⟩ => no_enabled k hk enabled
    exact completes_of_exec ((exec_ctc1_fcsr cu1 rt).trans (if_neg quiet))
      ((Frame.refl rfl).withFcsr _ rfl) rfl rfl rfl rfl
  case traps =>
    obtain rfl : f = lowWord (s.x .rt rt) := BitVec.eq_of_toNat_eq (low.trans (toNat_lowWord _).symm)
    exact raisesFp_of_exec ((exec_ctc1_fcsr cu1 rt).trans (if_pos (fpTraps_written_iff.mpr traps)))
  case ignored =>
    exact completes_of_exec (usable.trans (if_neg not_fcsr)) (Frame.refl rfl) trivial rfl rfl rfl

end Sys2Proof.Machine
end

section
/-! PROOFS. The loads to coprocessor 1 registers on an access that succeeds (45_fpu_transfer.md R470, R471,
R474, R475, R485): the region of an indexed address, and the cell the register is left with. -/

namespace Sys2Proof.Machine

open Sys2Proof

variable {i : Instr} {s : State} {va base : Word} {n : Nat} {as : List Nat} {r : RegNum} {ok : Bool}

/-- The region of an address is its upper two bits (45_fpu_transfer.md R485). -/
theorem sameRegion_eq (va base : Word) :
    sameRegion va base = (va.toNat / 2 ^ 62 == base.toNat / 2 ^ 62) := by
  have region (a : Word) : (a.extractLsb' 62 2).toNat = a.toNat / 2 ^ 62 := by
    rw [BitVec.extractLsb'_toNat, Nat.shiftRight_eq_div_pow]
    exact Nat.mod_eq_of_lt (by omega)
  rw [sameRegion, Bool.eq_iff_iff, beq_iff_eq, beq_iff_eq, ← BitVec.toNat_inj, region, region]

theorem State.load_located {write : State → Word → State} (low : va.toNat % n = 0)
    (l : s.locate va va n .load = .ok as) :
    s.load va n write =
      .next (write s.disturbLink (valueOfBytes s.bigEndianCpu (as.map s.readByte))).complete := by
  simp only [State.load, State.memRead_located low l]

/-- A load may leave LLbit open (40_cpu_load_store.md R226). -/
theorem State.disturbLink_underway (s : State) (fgrs tags : List RegNum) :
    Underway s s.disturbLink { fgrs := fgrs, tags := tags, llBit := s.llBit } :=
  (Underway.refl rfl).disturbLink id

theorem and_lowHalf_of_lt {m : Word} (small : m.toNat < 2 ^ 32) : m &&& lowHalf = m := by
  refine BitVec.eq_of_toNat_eq ?_
  rw [BitVec.toNat_and]
  exact (Nat.and_two_pow_sub_one_eq_mod m.toNat 32).trans (Nat.mod_eq_of_lt small)

/-- A word load of either form; after a region violation what it loads is `UNDEF` (log 37). -/
theorem completes_of_load_word
    (runs : exec i s = s.load va 4 fun t m => t.loadFgrWord r (if ok then Reg.of m else Reg.unknown))
    (low : va.toNat % 4 = 0) (l : s.locate va va 4 .load = .ok as) :
    Completes i s { fgrs := [r], tags := [s.fprIndex r], llBit := s.llBit } fun t =>
      t.fgrLow r = (if ok then Reg.of (valueOfBytes s.bigEndianCpu (as.map s.readByte))
        else { val := 0, undef := lowHalf }) ∧
      (s.cfg.fgr64 = true → t.fgr[r.toNat].undef = if ok then highHalf else BitVec.allOnes 64) ∧
      (s.cfg.fprTags = .strict → t.tag r = .uninterpreted) := by
  have small := and_lowHalf_of_lt (loaded_lt l (by decide))
  have disturbed := State.disturbLink_underway s [r] [s.fprIndex r]
  refine disturbed.completes_word (runs.trans (State.load_located low l)) List.mem_cons_self
    List.mem_cons_self ?_ ?_
  · cases ok with
    | true => exact (Reg.low_of _).trans (congrArg Reg.of small)
    | false => exact Reg.low_unknown
  · cases ok with
    | true => exact Reg.of_undef_or_highHalf _
    | false => exact Reg.unknown_undef_or_highHalf

/-- A doubleword load of either form. -/
theorem completes_of_load_double
    (runs : exec i s = s.load va 8 fun t m => t.loadFprDouble r (if ok then Reg.of m else Reg.unknown))
    (low : va.toNat % 8 = 0) (l : s.locate va va 8 .load = .ok as) :
    Completes i s { fgrs := s.fprRegs r, tags := [s.fprIndex r], llBit := s.llBit } fun t =>
      if s.validFpr r then
        t.fprDouble r = (if ok then Reg.of (valueOfBytes s.bigEndianCpu (as.map s.readByte))
          else Reg.unknown) ∧ (s.cfg.fprTags = .strict → t.tag r = .uninterpreted)
      else t.FprResult r .d 0 := by
  have disturbed := State.disturbLink_underway s (s.fprRegs r) [s.fprIndex r]
  exact disturbed.completes_double (runs.trans (State.load_located low l)) (fun _ => id)
    List.mem_cons_self

/-- Settles O43: the forms with an offset load what is there, the indexed ones by the region. -/
theorem fpLoads : Obligations.FpLoads := by
  intro s r index base offset va as cu1
  have usable {k : Result} : s.withCu1 k = k := State.withCu1_usable cu1
  refine ⟨?_, ?_⟩
  · rintro rfl
    refine ⟨fun low => ?_, fun low => ?_⟩
    · exact completes_of_load_word (ok := true) (usable.trans (offsetCheck_passes (k := 2) low))
    · exact completes_of_load_double (ok := true) (usable.trans (offsetCheck_passes (k := 3) low))
  · rintro rfl
    rw [← sameRegion_eq]
    exact ⟨completes_of_load_word usable, completes_of_load_double usable⟩

end Sys2Proof.Machine
end

section
/-! PROOFS. The stores from coprocessor 1 registers on an access that succeeds (45_fpu_transfer.md R472, R473,
R476, R477, R485): a value, or bytes that become undefined. -/

namespace Sys2Proof.Machine

open Sys2Proof

variable {i : Instr} {s : State} {w : Footprint} {va : Word} {n : Nat} {as : List Nat}

/-! ### Storing UNDEF -/

theorem Frame.undefCells (bytes : w.bytes = as) : Frame s (s.undefCells as) w := by
  constructor
  case mem => exact fun a ha => State.undefCells_read_other (by rwa [← bytes])
  case stored => exact fun a => by rw [State.mem_undefCells_stored, bytes]
  case undefMem =>
    intro a ha
    rw [State.mem_undefCells_undefMem, ← bytes, or_iff_left ha]
  all_goals simp

theorem State.storeUndef_located (low : va.toNat % n = 0) (l : s.locate va va n .store = .ok as) :
    s.storeUndef va n = .next (s.undefCells as).disturbLink.complete := by
  simp only [State.storeUndef, State.finishStore, State.memWriteUndef,
    if_pos ((aligned_iff va n).mpr low), l]

theorem storesUndef_of_storeUndef (runs : exec i s = s.storeUndef va n) : StoresUndef i s va n := by
  intro as low l
  have undefined : Underway s (s.undefCells as) { bytes := as, llBit := s.llBit } :=
    ⟨.undefCells rfl, State.undefCells_npc .., State.undefCells_hiRd .., State.undefCells_loRd ..⟩
  refine (undefined.disturbLink (by simp)).completes (runs.trans (State.storeUndef_located low l)) ?_
  intro a ha
  rw [State.complete_undefMem, State.disturbLink_undefMem, State.mem_undefCells_undefMem]
  exact .inr ha

/-! ### The two kinds of register -/

/-- A doubleword store of either form: an odd number of the 32-bit model holds no doubleword
(44_fpu_model.md R433). -/
theorem stores_of_storeFprDouble {site : DrawSite} {r : RegNum} (inv : s.Inv) (wide : 8 ≤ s.cfg.psize)
    (runs : exec i s = s.storeFprDouble site r va) :
    (s.validFpr r = true → Stores i s va 8 ((s.fprDouble r).read (s.draw site))) ∧
      (s.validFpr r = false → StoresUndef i s va 8) :=
  ⟨fun valid => store_stores inv wide (by decide) (runs.trans (if_pos valid)),
    fun invalid => storesUndef_of_storeUndef (runs.trans (if_neg (Bool.eq_false_iff.mp invalid)))⟩

/-! ### The region of an indexed address (45_fpu_transfer.md R485) -/

theorem State.indexedStore_inside {base : RegNum} {stores : Result}
    (same : va.toNat / 2 ^ 62 = (s.x .rs base).toNat / 2 ^ 62) :
    s.indexedStore va base n stores = stores := by
  rw [State.indexedStore, sameRegion_eq, same, beq_self_eq_true, if_pos rfl]

theorem State.indexedStore_outside {base : RegNum} {stores : Result}
    (apart : va.toNat / 2 ^ 62 ≠ (s.x .rs base).toNat / 2 ^ 62) :
    s.indexedStore va base n stores = s.storeUndef va n := by
  rw [State.indexedStore, sameRegion_eq, beq_false_of_ne apart]
  rfl

/-- Settles O44: the forms with an offset, then the indexed ones inside and outside the region. -/
theorem fpStores : Obligations.FpStores := by
  intro s r index base offset va inv wide cu1
  have usable {k : Result} : s.withCu1 k = k := State.withCu1_usable cu1
  refine ⟨?_, ?_⟩
  · rintro rfl
    refine ⟨fun low => ?_, fun low => ?_⟩
    · exact store_stores inv wide (by decide) (usable.trans (offsetCheck_passes (k := 2) low))
    · exact stores_of_storeFprDouble inv wide (usable.trans (offsetCheck_passes (k := 3) low))
  · rintro rfl
    refine ⟨fun same => ?_, fun apart => ?_⟩
    · exact ⟨store_stores inv wide (by decide) (usable.trans (State.indexedStore_inside same)),
        stores_of_storeFprDouble inv wide (usable.trans (State.indexedStore_inside same))⟩
    · exact ⟨storesUndef_of_storeUndef (usable.trans (State.indexedStore_outside apart)),
        storesUndef_of_storeUndef (usable.trans (State.indexedStore_outside apart))⟩

end Sys2Proof.Machine
end

section
/-! SUPPORT. How an operation of the FPU finishes (44_fpu_model.md R442, R444, 46_fpu_arith.md, common steps):
its operands are read and marked with their format, then FPResult traps, or records the conditions and
writes the result. -/

namespace Sys2Proof.Machine

open Sys2Proof

variable {i : Instr} {s t : State} {w : Footprint} {fmt src dst : Fmt} {op : FpOp} {n fd fr fs ft : RegNum}
  {regs : List RegNum} {a b d v : Word} {c : Conds} {r : Word × Conds} {write : State → State}

/-! ### FPResult (44_fpu_model.md R444) -/

theorem getLsbD_fcsrFlags {f : BitVec 32} {k : Nat} :
    (fcsrFlags f).getLsbD k = (decide (k < 5) && f.getLsbD (2 + k)) := by
  rw [fcsrFlags, BitVec.getLsbD_append]
  split
  · next hk => simp [hk]
  · next hk => simp [hk]

theorem fcsrRaised_addFlags (f : BitVec 32) (c : Conds) :
    FcsrRaised f (addFlags (setCause f c) c) c := by
  refine ⟨?cause, ?flags, ?others⟩
  case cause =>
    ext k hk
    simp only [fcsrCause, addFlags, setCause]
    interval_cases k <;> simp
  case flags =>
    refine BitVec.eq_of_getLsbD_eq fun k hk => ?_
    rw [BitVec.getLsbD_or, getLsbD_fcsrFlags, getLsbD_fcsrFlags]
    simp only [addFlags, setCause, condE]
    interval_cases k <;> simp
  case others =>
    ext k hk
    simp only [addFlags, setCause]
    interval_cases k <;> simp

theorem raisesFp_of_fpResult (runs : exec i s = s.fpResult t c write) (traps : fpTraps s.fcsr c = true) :
    ∃ f, FcsrTrapped s.fcsr f c ∧ RaisesFp i s f := by
  rw [State.fpResult, if_pos traps] at runs
  exact ⟨_, fcsrTrapped_setCause s.fcsr c, raisesFp_of_exec runs⟩

/-- Where FPResult does not trap, `t` being the state with the operands read. -/
theorem exec_of_fpResult (runs : exec i s = s.fpResult t c write) (quiet : ¬fpTraps s.fcsr c = true)
    (fcsr : t.fcsr = s.fcsr) :
    exec i s = .next (write { t with fcsr := addFlags (setCause s.fcsr c) c }).complete := by
  rw [State.fpResult, if_neg quiet, fcsr] at runs
  exact runs

theorem Underway.withFcsr (h : Underway s t w) (f : BitVec 32) (fcsr : w.fcsr = true) :
    Underway s { t with fcsr := f } w :=
  { h with frame := h.frame.withFcsr f fcsr }

/-! ### Tags -/

theorem State.tag_setTag_eq (strict : s.cfg.fprTags = .strict) (g : Tag) (m : RegNum) :
    (s.setTag n g).tag m = if s.fprIndex m = s.fprIndex n then g else s.tag m := by
  rw [State.setTag_of_strict strict]
  show (s.tags.set (s.fprIndex n).toNat g)[(s.fprIndex m).toNat] = _
  rw [Vector.getElem_set]
  simp only [BitVec.toNat_inj, eq_comm (a := s.fprIndex n)]
  rfl

/-- A result changes the tag of its own register only. -/
theorem State.tag_storeFpr_of_ne {m : RegNum} (apart : s.fprIndex m ≠ s.fprIndex n) :
    (s.storeFpr n fmt v).tag m = s.tag m := by
  have frame : Frame s (s.storeFpr n fmt v) { fgrs := s.fprRegs n, tags := [s.fprIndex n] } :=
    (Frame.refl rfl).storeFpr fmt v (fun _ => id) (List.mem_singleton_self _)
  simp only [State.tag, State.fprIndex_of_cfg frame.cfg m]
  exact frame.tags _ (mt List.mem_singleton.mp apart)

/-! ### The operands -/

/-- From `s` to `t` no more than the footprint was written, operands of format `fmt` were read, and those of
`regs` are marked with it (44_fpu_model.md R432). -/
structure OperandsRead (s t : State) (w : Footprint) (fmt : Fmt) (regs : List RegNum) : Prop where
  underway : Underway s t w
  fgr : t.fgr = s.fgr
  fcsr : t.fcsr = s.fcsr
  kept : ∀ n, t.tag n = s.tag n ∨ t.tag n = .is fmt
  marked : s.cfg.fprTags = .strict → ∀ n ∈ regs, t.tag n = .is fmt

theorem OperandsRead.refl (bytes : w.bytes = []) : OperandsRead s s w fmt [] where
  underway := .refl bytes
  fgr := rfl
  fcsr := rfl
  kept _ := .inl rfl
  marked _ := nofun

namespace OperandsRead

variable (h : OperandsRead s t w fmt regs)

include h

theorem cfg : t.cfg = s.cfg := h.underway.frame.cfg

/-- Reading operands leaves what the others hold. -/
theorem holds (holds : s.FprHolds n fmt v) : t.FprHolds n fmt v := by
  obtain ⟨valid, cell, matched⟩ := holds
  have same_cell : t.fprCell n fmt = s.fprCell n fmt := by
    calc t.fprCell n fmt = ({ s with cfg := t.cfg, fgr := t.fgr } : State).fprCell n fmt := rfl
      _ = s.fprCell n fmt := by rw [h.fgr, h.cfg]
  refine ⟨(State.validFpr_of_cfg h.cfg n).trans valid, same_cell.trans cell, fun strict => ?_⟩
  rcases h.kept n with same | marked
  · rw [same]
    exact matched (h.cfg ▸ strict)
  · exact .inl marked

/-- One more operand is read: its value, and the state with its register marked. -/
theorem valueFpr (held : s.FprHolds n fmt v) (site : DrawSite) :
    t.valueFpr site n fmt = (v, t.setTag n (.is fmt)) := State.valueFpr_holds (h.holds held)

theorem setTag (listed : s.fprIndex n ∈ w.tags) :
    OperandsRead s (t.setTag n (.is fmt)) w fmt (regs ++ [n]) := by
  cases model : t.cfg.fprTags with
  | bits =>
    rw [State.setTag_of_bits model]
    have no_tags : s.cfg.fprTags ≠ .strict := by simp [← h.cfg, model]
    exact { h with marked := fun strict => absurd strict no_tags }
  | strict =>
    have tag_eq := State.tag_setTag_eq (n := n) model (.is fmt)
    refine { underway := ?underway, fgr := (State.setTag_fgr ..).trans h.fgr,
             fcsr := (State.setTag_fcsr ..).trans h.fcsr, kept := fun m => ?kept,
             marked := fun strict m member => ?marked }
    case underway =>
      exact ⟨h.underway.frame.setTag _ (by rwa [State.fprIndex_of_cfg h.cfg]),
        (State.setTag_npc ..).trans h.underway.npc, (State.setTag_hiRd ..).trans h.underway.hiRd,
        (State.setTag_loRd ..).trans h.underway.loRd⟩
    case kept =>
      rw [tag_eq]
      split
      · exact .inr rfl
      · exact h.kept m
    case marked =>
      rw [tag_eq]
      split
      · rfl
      · next apart =>
        rcases List.mem_append.mp member with before | last
        · exact h.marked strict m before
        · exact absurd (List.mem_singleton.mp last ▸ rfl) apart

end OperandsRead

/-! ### The result -/

/-- What an arithmetic operation may write (44_fpu_model.md R431, R432). -/
def resultFootprint (s : State) (fd : RegNum) (regs : List RegNum) : Footprint :=
  { fgrs := s.fprRegs fd, tags := (fd :: regs).map s.fprIndex, fcsr := true }

theorem fprIndex_mem_resultFootprint (h : n ∈ regs) : s.fprIndex n ∈ (resultFootprint s fd regs).tags :=
  List.mem_map_of_mem (List.mem_cons_of_mem _ h)

/-- The operands read, FPResult and the result in its register. -/
theorem finishesInto_of_fpFinish (operands : OperandsRead s t (resultFootprint s fd regs) src regs)
    (runs : exec i s = s.fpFinish t op src a b d r.2 fun u => u.storeFpr fd dst r.1) :
    FinishesInto i s (s.claimed op src a b d) src regs fd dst r := by
  rw [State.fpFinish] at runs
  rw [FinishesInto, Finishes]
  generalize (if s.claimed op src a b d then condE else r.2) = c at runs ⊢
  split
  · next traps => exact raisesFp_of_fpResult runs traps
  · next quiet =>
    obtain ⟨frame, npc, hiRd, loRd⟩ := operands.underway.withFcsr (addFlags (setCause s.fcsr c) c) rfl
    refine completes_of_exec (exec_of_fpResult runs quiet operands.fcsr)
      (frame.storeFpr dst r.1 ?listed ?tag) ⟨?raised, State.storeFpr_result .., ?marked⟩
      ((State.storeFpr_npc ..).trans npc) ((State.storeFpr_hiRd ..).trans hiRd)
      ((State.storeFpr_loRd ..).trans loRd)
    case listed =>
      show ∀ m ∈ t.fprRegs fd, m ∈ s.fprRegs fd
      rw [State.fprRegs_of_cfg operands.cfg]
      exact fun m member => member
    case tag => exact State.fprIndex_of_cfg operands.cfg fd ▸ List.mem_map_of_mem List.mem_cons_self
    case raised =>
      rw [State.complete_fcsr, State.storeFpr_fcsr]
      exact fcsrRaised_addFlags ..
    case marked =>
      intro strict m member apart
      refine (State.tag_storeFpr_of_ne ?_).trans (operands.marked strict m member)
      show t.fprIndex m ≠ t.fprIndex fd
      rwa [State.fprIndex_of_cfg operands.cfg, State.fprIndex_of_cfg operands.cfg]

/-! ### The operations of one, two and three operands -/

theorem unaryFp_of_exec {f : Word → Word × Conds} (runs : exec i s = s.fpUnary op src dst f fd fs) :
    UnaryFp i s op src dst f fd fs := by
  intro usable a holds
  have none_read : OperandsRead s s (resultFootprint s fd [fs]) src [] := .refl rfl
  refine finishesInto_of_fpFinish (none_read.setTag (n := fs) (fprIndex_mem_resultFootprint (by simp))) ?_
  rw [runs, State.fpUnary, State.withCu1_usable usable, none_read.valueFpr holds]

theorem binaryFp_of_exec {f : Word → Word → Word × Conds} (runs : exec i s = s.fpBinary op fmt f fd fs ft) :
    BinaryFp i s op fmt f fd fs ft := by
  intro usable a b holds_a holds_b
  have none_read : OperandsRead s s (resultFootprint s fd [fs, ft]) fmt [] := .refl rfl
  have one_read := none_read.setTag (n := fs) (fprIndex_mem_resultFootprint (by simp))
  have both_read := one_read.setTag (n := ft) (fprIndex_mem_resultFootprint (by simp))
  refine finishesInto_of_fpFinish both_read ?_
  rw [runs, State.fpBinary, State.withCu1_usable usable, none_read.valueFpr holds_a]
  simp only [one_read.valueFpr holds_b]

theorem ternaryFp_of_exec {f : Word → Word → Word → Word × Conds}
    (runs : exec i s = s.fpTernary op fmt f fd fr fs ft) : TernaryFp i s op fmt f fd fr fs ft := by
  intro usable d a b holds_d holds_a holds_b
  have none_read : OperandsRead s s (resultFootprint s fd [fr, fs, ft]) fmt [] := .refl rfl
  have one_read := none_read.setTag (n := fr) (fprIndex_mem_resultFootprint (by simp))
  have two_read := one_read.setTag (n := fs) (fprIndex_mem_resultFootprint (by simp))
  have all_read := two_read.setTag (n := ft) (fprIndex_mem_resultFootprint (by simp))
  refine finishesInto_of_fpFinish all_read ?_
  rw [runs, State.fpTernary, State.withCu1_usable usable, none_read.valueFpr holds_d]
  simp only [one_read.valueFpr holds_a, two_read.valueFpr holds_b]

end Sys2Proof.Machine
end

section
/-! PROOFS. The compares (46_fpu_arith.md R514): the one condition code they set, and how numbers compare. -/

namespace Sys2Proof.Machine

open Sys2Proof

variable {i : Instr} {s t : State} {fmt : Fmt} {fs ft : RegNum} {cond : BitVec 4} {cc : BitVec 3}
  {f f' : BitVec 32} {c : Conds} {x y : Num} {a b : Word}

/-! ### The condition codes (10_state.md R48) -/

theorem fccBit_bounds : ∀ cc : BitVec 3, 23 ≤ fccBit cc ∧ fccBit cc < 32 := by decide

theorem fccBit_inj : ∀ cc cc' : BitVec 3, fccBit cc = fccBit cc' ↔ cc = cc' := by decide

theorem getLsbD_setFcc (s : State) (cc : BitVec 3) (b : Bool) {k : Nat} (hk : k < 32) :
    (s.setFcc cc b).fcsr.getLsbD k = if k = fccBit cc then b else s.fcsr.getLsbD k := by
  rw [State.setFcc, BitVec.getLsbD_or, BitVec.getLsbD_and, BitVec.getLsbD_not, BitVec.getLsbD_shiftLeft,
    BitVec.getLsbD_shiftLeft]
  generalize fccBit cc = j
  rcases lt_trichotomy k j with below | rfl | above
  · simp [hk, below, below.ne]
  · cases b <;> simp [hk]
  · have bit : k - j ≠ 0 := by omega
    cases b <;> simp [hk, above.ne', above.not_gt, bit]

theorem fcsrCause_setFcc (s : State) (cc : BitVec 3) (b : Bool) :
    fcsrCause (s.setFcc cc b).fcsr = fcsrCause s.fcsr := by
  refine BitVec.eq_of_getLsbD_eq fun k hk => ?_
  have apart : 12 + k ≠ fccBit cc := by have := fccBit_bounds cc; omega
  rw [getLsbD_fcsrCause hk, getLsbD_fcsrCause hk, getLsbD_setFcc _ _ _ (by omega), if_neg apart]

theorem fcsrFlags_setFcc (s : State) (cc : BitVec 3) (b : Bool) :
    fcsrFlags (s.setFcc cc b).fcsr = fcsrFlags s.fcsr := by
  refine BitVec.eq_of_getLsbD_eq fun k hk => ?_
  have apart : 2 + k ≠ fccBit cc := by have := fccBit_bounds cc; omega
  rw [getLsbD_fcsrFlags, getLsbD_fcsrFlags, getLsbD_setFcc _ _ _ (by omega), if_neg apart]

theorem FcsrRaised.getLsbD {k : Nat} (h : FcsrRaised f f' c) (kept : (0xfffc0f83#32).getLsbD k = true) :
    f'.getLsbD k = f.getLsbD k := by
  obtain ⟨-, -, others⟩ := h
  simpa [kept] using congrArg (BitVec.getLsbD · k) others

/-- The bits of the FCSR that neither conditions nor a condition code change. -/
theorem fcc_apart_from_controls : ∀ k < 32, (0x017c0f83#32).getLsbD k = true →
    (0xfffc0f83#32).getLsbD k = true ∧ ∀ cc, k ≠ fccBit cc := by decide

theorem controls_of_setFcc (raised : FcsrRaised f s.fcsr c) (cc : BitVec 3) (b : Bool) :
    (s.setFcc cc b).fcsr &&& 0x017c0f83 = f &&& 0x017c0f83 := by
  refine BitVec.eq_of_getLsbD_eq fun k hk => ?_
  rw [BitVec.getLsbD_and, BitVec.getLsbD_and]
  cases control : (0x017c0f83#32).getLsbD k with
  | false => rw [Bool.and_false, Bool.and_false]
  | true =>
    obtain ⟨kept, apart⟩ := fcc_apart_from_controls k hk control
    rw [getLsbD_setFcc _ _ _ hk, if_neg (apart cc), raised.getLsbD kept]

/-- The FCSR of a comparison: the conditions recorded, and then its condition code. -/
theorem compared_fcsr (u : State) (raised : FcsrRaised s.fcsr u.fcsr c) (cc : BitVec 3) (b : Bool) :
    (∀ cc', (u.setFcc cc b).fcc cc' = if cc' = cc then b else s.fcc cc') ∧
      fcsrCause (u.setFcc cc b).fcsr = c ∧
      fcsrFlags (u.setFcc cc b).fcsr = fcsrFlags s.fcsr ||| (c &&& ~~~condE) ∧
      (u.setFcc cc b).fcsr &&& 0x017c0f83 = s.fcsr &&& 0x017c0f83 := by
  have ⟨cause, flags, _⟩ := raised
  refine ⟨fun cc' => ?_, (fcsrCause_setFcc ..).trans cause, (fcsrFlags_setFcc ..).trans flags,
    controls_of_setFcc raised cc b⟩
  have kept : ∀ cc, (0xfffc0f83#32).getLsbD (fccBit cc) = true := by decide
  rw [State.fcc, getLsbD_setFcc _ _ _ (fccBit_bounds cc').2, raised.getLsbD (kept cc')]
  simp only [fccBit_inj, State.fcc]

/-! ### The instructions -/

/-- The operands read, FPResult and the condition code. -/
theorem comparesFp_of_exec (runs : exec i s = s.fpCompareOp cond fmt cc fs ft) :
    ComparesFp i s cond fmt cc fs ft := by
  intro usable a b holds_a holds_b r c
  obtain ⟨u, operands, result⟩ : ∃ u,
      OperandsRead s u { tags := [fs, ft].map s.fprIndex, fcsr := true } fmt [fs, ft] ∧
        exec i s = s.fpResult u c fun t => t.setFcc cc r.1 := by
    have none_read : OperandsRead s s { tags := [fs, ft].map s.fprIndex, fcsr := true } fmt [] := .refl rfl
    have one_read := none_read.setTag (n := fs) (by simp)
    have both_read := one_read.setTag (n := ft) (by simp)
    refine ⟨_, both_read, ?_⟩
    rw [runs, State.fpCompareOp, State.withCu1_usable usable, none_read.valueFpr holds_a]
    simp only [one_read.valueFpr holds_b, State.fpFinish, c, r]
  split
  · next traps => exact raisesFp_of_fpResult result traps
  · next quiet =>
    obtain ⟨fcc, cause, flags, controls⟩ :=
      compared_fcsr { u with fcsr := addFlags (setCause s.fcsr c) c } (fcsrRaised_addFlags s.fcsr c) cc r.1
    refine (operands.underway.withFcsr _ rfl).completes (exec_of_fpResult result quiet operands.fcsr)
      ⟨fcc, cause, flags, controls, fun strict => ⟨?_, ?_⟩⟩
    · exact operands.marked strict fs (by simp)
    · exact operands.marked strict ft (by simp)

/-- Settles O50: every comparison runs the one operation, each with its own condition. -/
theorem fpCompares : Obligations.FpCompares := by
  intro s cc fs ft
  and_intros <;> exact comparesFp_of_exec rfl

/-! ### The outcome -/

theorem ltNum_fin_iff (finite_x : x.isFinite = true) (finite_y : y.isFinite = true) :
    ltNum x y = true ↔ x.toRat < y.toRat := by
  obtain ⟨s, m, e, rfl⟩ := Num.eq_fin_of_isFinite finite_x
  obtain ⟨t, n, g, rfl⟩ := Num.eq_fin_of_isFinite finite_y
  have unit : (0 : ℚ) < 2 ^ min e g := by positivity
  rw [← scaled_mul_two_zpow (min_le_left e g), ← scaled_mul_two_zpow (min_le_right e g),
    mul_lt_mul_iff_left₀ unit, Int.cast_lt]
  exact decide_eq_true_iff

theorem eqNum_fin_iff (finite_x : x.isFinite = true) (finite_y : y.isFinite = true) :
    eqNum x y = true ↔ x.toRat = y.toRat := by
  obtain ⟨s, m, e, rfl⟩ := Num.eq_fin_of_isFinite finite_x
  obtain ⟨t, n, g, rfl⟩ := Num.eq_fin_of_isFinite finite_y
  have unit : (2 : ℚ) ^ min e g ≠ 0 := by positivity
  rw [← scaled_mul_two_zpow (min_le_left e g), ← scaled_mul_two_zpow (min_le_right e g),
    mul_left_inj' unit, Int.cast_inj]
  exact decide_eq_true_iff

/-- The statement's outcome of a comparison: its condition and whether it raises V. -/
def Outcome (cond : BitVec 4) (r : Bool × Conds) (less equal unordered v : Prop) : Prop :=
  (r.1 = true ↔ (cond.getLsbD 2 = true ∧ less) ∨ (cond.getLsbD 1 = true ∧ equal) ∨
    (cond.getLsbD 0 = true ∧ unordered)) ∧
  (r.2 = condV ∧ v ∨ r.2 = condNone ∧ ¬v)

theorem fpCompare_nan (nan : anyNaN [decodeNum fmt a, decodeNum fmt b] = true) :
    Outcome cond (fpCompare cond fmt a b) False False True
      (decodeNum fmt a = .nan true ∨ decodeNum fmt b = .nan true ∨ cond.getLsbD 3 = true) := by
  have invalid : (anySignaling [decodeNum fmt a, decodeNum fmt b] || cond.getLsbD 3) = true ↔
      decodeNum fmt a = .nan true ∨ decodeNum fmt b = .nan true ∨ cond.getLsbD 3 = true := by
    rw [Bool.or_eq_true, anySignaling_iff]
    simp [eq_comm (a := Num.nan true), or_assoc]
  rw [← invalid]
  simp only [fpCompare, if_pos nan]
  refine ⟨by simp, ?_⟩
  split
  · next raises => exact .inl ⟨rfl, raises⟩
  · next quiet => exact .inr ⟨rfl, quiet⟩

/-- Numbers that are no NaN are less, equal, or neither; nothing is raised. -/
theorem fpCompare_numbers (ha : decodeNum fmt a = x) (hb : decodeNum fmt b = y) (nx : x.isNaN = false)
    (ny : y.isNaN = false) {less equal : Prop} (lt : ltNum x y = true ↔ less)
    (eq : eqNum x y = true ↔ equal) :
    Outcome cond (fpCompare cond fmt a b) less equal False False := by
  have no_nan : ¬anyNaN [x, y] = true := by simp [anyNaN_iff, nx, ny]
  simp only [fpCompare, ha, hb, if_neg no_nan]
  exact ⟨by simp [lt, eq], .inr ⟨rfl, not_false⟩⟩

theorem Num.isNaN_of_isFinite (h : x.isFinite = true) : x.isNaN = false := by
  obtain ⟨s, m, e, rfl⟩ := Num.eq_fin_of_isFinite h
  rfl

/-- Settles O59: a NaN operand, finite numbers, then the infinities. -/
theorem compareOutcomes : Obligations.CompareOutcomes := by
  intro cond fmt a b
  refine ⟨fun nan => ?nan, fun finite_a finite_b => ?finite, fun s ha finite_b => ?inf_fin,
    fun t finite_a hb => ?fin_inf, fun s t ha hb => ?inf_inf⟩
  case nan => exact fpCompare_nan (anyNaN_iff.mpr (by simpa using nan))
  case finite =>
    exact fpCompare_numbers rfl rfl (Num.isNaN_of_isFinite finite_a) (Num.isNaN_of_isFinite finite_b)
      (ltNum_fin_iff finite_a finite_b) (eqNum_fin_iff finite_a finite_b)
  case inf_fin =>
    obtain ⟨t, n, g, hb⟩ := Num.eq_fin_of_isFinite finite_b
    exact fpCompare_numbers ha hb rfl rfl Iff.rfl (by simp [eqNum])
  case fin_inf =>
    obtain ⟨s, m, e, ha⟩ := Num.eq_fin_of_isFinite finite_a
    exact fpCompare_numbers ha hb rfl rfl (by simp [ltNum]) (by simp [eqNum])
  case inf_inf => exact fpCompare_numbers ha hb rfl rfl (by simp [ltNum]) (by simp [eqNum])

end Sys2Proof.Machine
end

section
/-! SUPPORT. The ways `Round` ends, said once (44_fpu_model.md R446 to R450, R455): an overflow, a flush, or the
magnitude rounded to a multiple of a power of two that is no more than the unit in the last place of the
result. -/

namespace Sys2Proof.Machine

open Sys2Proof

variable {c : Config} {f : BitVec 32} {fmt : Fmt} {rm : BitVec 2} {neg s rest inexact : Bool}
  {mant m n : Nat} {exp b e g q : Int} {r v : Word} {w y : ℚ}

/-! ### The last place of a finite pattern -/

/-- The number a pattern stands for is its significand in units of its last place. -/
theorem fin_bounds (h : decodeNum fmt v = .fin s m e) :
    m < 2 ^ fmtPrec fmt ∧ fmtEmin fmt - (fmtPrec fmt - 1) ≤ e ∧ ulpExp fmt v = e := by
  have frac_small : fracField fmt v < 2 ^ (fmtPrec fmt - 1) := Nat.mod_lt _ (by positivity)
  have double : 2 ^ (fmtPrec fmt - 1) + 2 ^ (fmtPrec fmt - 1) = 2 ^ fmtPrec fmt := by cases fmt <;> rfl
  have field_small : expField fmt v < 2 ^ fmtExpBits fmt := Nat.mod_lt _ (by positivity)
  have fields : 2 ≤ 2 ^ fmtExpBits fmt - 1 := by cases fmt <;> decide
  simp only [decodeNum] at h
  split at h
  · split at h <;> cases h
  · next not_top =>
    split at h
    · next zero =>
      obtain ⟨-, rfl, rfl⟩ := Num.fin.inj h
      refine ⟨by omega, le_rfl, ?_⟩
      rw [ulpExp, zero, max_eq_right zero_le_one, min_eq_left (by omega), fmtEmin, Nat.cast_one]
    · next nonzero =>
      obtain ⟨-, rfl, rfl⟩ := Num.fin.inj h
      refine ⟨by omega, ?_, ?_⟩
      · rw [fmtEmin]
        omega
      · rw [ulpExp, max_eq_left (by omega), min_eq_left (by omega)]

/-- The binade of a magnitude of no more bits than the precision. -/
theorem binade_lt_of_small (small : m < 2 ^ fmtPrec fmt) (low : (2 : ℚ) ^ b ≤ m * 2 ^ e) :
    b < fmtPrec fmt + e := by
  refine (zpow_lt_zpow_iff_right₀ (one_lt_two (α := ℚ))).mp ?_
  calc (2 : ℚ) ^ b ≤ m * 2 ^ e := low
    _ < (2 ^ fmtPrec fmt : Nat) * 2 ^ e := mul_lt_mul_of_pos_right (by exact_mod_cast small) (by positivity)
    _ = _ := by
      rw [zpow_add₀ two_ne_zero, zpow_natCast]
      norm_cast

theorem least_le_ulpExp (finite : (decodeNum fmt v).isFinite = true) :
    fmtEmin fmt - (fmtPrec fmt - 1) ≤ ulpExp fmt v := by
  obtain ⟨s, m, e, h⟩ := Num.eq_fin_of_isFinite finite
  obtain ⟨-, least, ulp⟩ := fin_bounds h
  exact ulp ▸ least

theorem StandsFor.exists_fin (h : StandsFor fmt v neg w) :
    ∃ m e, decodeNum fmt v = .fin neg m e ∧ (m : ℚ) * 2 ^ e = w := by
  obtain ⟨sign, finite, value⟩ := h
  obtain ⟨s, m, e, number⟩ := Num.eq_fin_of_isFinite finite
  obtain rfl : s = neg := (signBit_of_fin number).symm.trans sign
  rw [number, Num.toRat, mul_assoc] at value
  exact ⟨m, e, number, mul_left_cancel₀ (by split <;> norm_num) value⟩

theorem StandsFor.nonneg (h : StandsFor fmt v neg w) : 0 ≤ w := by
  obtain ⟨m, e, -, rfl⟩ := h.exists_fin
  positivity

/-- The last place of a number of the binade of `2 ^ b` or a higher one. -/
theorem StandsFor.ulpExp_of_le (h : StandsFor fmt v neg w) (low : (2 : ℚ) ^ b ≤ w) :
    b - (fmtPrec fmt - 1) ≤ ulpExp fmt v := by
  obtain ⟨m, e, number, magnitude⟩ := h.exists_fin
  obtain ⟨small, -, ulp⟩ := fin_bounds number
  have := binade_lt_of_small small (low.trans_eq magnitude.symm)
  omega

/-! ### The ways `Round` ends -/

/-- The result stands for `n * 2 ^ q`, what the magnitude rounds to: `2 ^ q` is no more than the unit in the
last place, and is that of the least exponent or of the binade of the magnitude. -/
structure RoundsTo (fmt : Fmt) (rm : BitVec 2) (neg : Bool) (mant : Nat) (exp : Int) (rest : Bool) (r : Word)
    (n : Nat) (q : Int) (inexact : Bool) : Prop where
  rounds : roundAt rm neg mant exp rest q = (n, inexact)
  finer : rest = true → exp < q
  placed : q = fmtEmin fmt - (fmtPrec fmt - 1) ∨ (2 : ℚ) ^ (q + (fmtPrec fmt - 1)) ≤ mant * 2 ^ exp
  value : StandsFor fmt r neg (n * 2 ^ q)
  unit : q ≤ ulpExp fmt r

theorem roundValue_cases (float : fmt = .s ∨ fmt = .d) (long : rest = true → 2 ^ (fmtPrec fmt + 1) ≤ mant)
    (nonzero : mant ≠ 0) :
    roundValue c f fmt neg mant exp rest = (overflowResult fmt (fcsrRm f) neg, condO ||| condI) ∨
      (fcsrFlush f = true ∧ (roundValue c f fmt neg mant exp rest).2 = 0b000011#6 ∧
        ∃ w, StandsFor fmt (roundValue c f fmt neg mant exp rest).1 neg w) ∨
      ∃ n q inexact,
        RoundsTo fmt (fcsrRm f) neg mant exp rest (roundValue c f fmt neg mant exp rest).1 n q inexact := by
  obtain ⟨b, n, inexact, h⟩ := exists_rounded (fmt := fmt) (rm := fcsrRm f) (neg := neg) (exp := exp) long
    nonzero
  rcases lt_or_ge ((n : ℚ) * 2 ^ (b - (fmtPrec fmt - 1))) (2 ^ fmtEmin fmt) with tiny | not_tiny
  · obtain ⟨⟨n', inexact'⟩, rounds⟩ : ∃ r,
      roundAt (fcsrRm f) neg mant exp rest (fmtEmin fmt - (fmtPrec fmt - 1)) = r := ⟨_, rfl⟩
    have below := (h.binade_lt_of_tiny float tiny).1
    have delivered := h.delivers_tiny (c := c) float tiny rounds
    right
    split at delivered
    · next flush =>
      obtain ⟨number, conds⟩ := delivered
      exact .inl ⟨flush.1, conds, _, number⟩
    · obtain ⟨number, -⟩ := delivered
      exact .inr ⟨n', _, inexact', rounds, fun more => (h.finer more).trans (by omega), .inl rfl, number,
        least_le_ulpExp number.2.1⟩
  · rcases lt_or_ge ((n : ℚ) * 2 ^ (b - (fmtPrec fmt - 1))) (2 ^ ((fmtEmax fmt : Int) + 1)) with high | big
    · obtain ⟨number, -⟩ := h.delivers_normal (c := c) float not_tiny high
      have binade : (2 : ℚ) ^ b ≤ n * 2 ^ (b - (fmtPrec fmt - 1)) := by
        rw [← units_of_two_zpow fmt b]
        exact mul_le_mul_of_nonneg_right (by exact_mod_cast h.le_units) (by positivity)
      exact .inr (.inr ⟨n, _, inexact, h.rounds, h.finer, .inr (by simpa using h.low), number,
        number.ulpExp_of_le binade⟩)
    · exact .inl (h.roundValue_overflow float big)

theorem overflowResult_isNaN (float : fmt = .s ∨ fmt = .d) (rm : BitVec 2) (neg : Bool) :
    (decodeNum fmt (overflowResult fmt rm neg)).isNaN = false := by
  rcases float with rfl | rfl
  · revert rm neg
    decide
  · revert rm neg
    decide

/-- `Round` of an exact value gives no NaN. -/
theorem roundValue_isNaN (float : fmt = .s ∨ fmt = .d) :
    (decodeNum fmt (roundValue c f fmt neg mant exp false).1).isNaN = false := by
  by_cases zero : mant = 0
  · subst zero
    exact Num.isNaN_of_isFinite (fpZero_standsFor float).2.1
  · rcases roundValue_cases (c := c) (f := f) (neg := neg) (exp := exp) (rest := false) float nofun zero with
      overflows | ⟨-, -, w, number⟩ | ⟨n, q, inexact, rounded⟩
    · rw [overflows]
      exact overflowResult_isNaN float ..
    · exact Num.isNaN_of_isFinite number.2.1
    · exact Num.isNaN_of_isFinite rounded.value.2.1

end Sys2Proof.Machine
end

section
/-! PROOFS. The arithmetic instructions of one and two operands (46_fpu_arith.md R500 to R508): that they finish,
and the values of ABS, NEG and of RECIP and RSQRT of special operands. -/

namespace Sys2Proof.Machine

open Sys2Proof

variable {c : Config} {f : BitVec 32} {fmt : Fmt} {a : Word} {x : Num} {s : Bool} {m k : Nat} {e : Int}

/-! ### Operands that are no NaN -/

section

variable (ha : decodeNum fmt a = x) (nx : x.isNaN = false)

include ha nx

theorem fpAbs_numbers : fpAbs c fmt a = (a &&& ~~~signMask fmt, condNone) := by
  rw [fpAbs, nanRule_numbers]
  simp [ha, nx]

theorem fpNeg_numbers : fpNeg c fmt a = (a ^^^ signMask fmt, condNone) := by
  rw [fpNeg, nanRule_numbers]
  simp [ha, nx]

theorem fpRecip_numbers : fpRecip c f fmt a = recipNum c f fmt a x := by
  rw [fpRecip, nanRule_numbers] <;> simp [ha, nx]

theorem fpRsqrt_numbers : fpRsqrt c f fmt a = rsqrtNum c f fmt a x := by
  rw [fpRsqrt, nanRule_numbers] <;> simp [ha, nx]

end

/-! ### The sign bit (46_fpu_arith.md R505, R506) -/

theorem signMask_eq (float : fmt = .s ∨ fmt = .d) :
    signMask fmt = if fmt = .d then 0x8000000000000000 else 0x80000000 := by
  rcases float with rfl | rfl <;> rfl

theorem getLsbD_signMask (float : fmt = .s ∨ fmt = .d) (hk : k < 64) :
    (signMask fmt).getLsbD k = (k == if fmt = .d then 63 else 31) := by
  have single : ∀ j < 64, (0x80000000 : Word).getLsbD j = (j == 31) := by decide
  have double : ∀ j < 64, (0x8000000000000000 : Word).getLsbD j = (j == 63) := by decide
  rcases float with rfl | rfl
  · exact single k hk
  · exact double k hk

/-! ### Zeros and negative numbers (46_fpu_arith.md R507, R508) -/

theorem recipNum_zero : recipNum c f fmt a (.fin s 0 e) = (fpInf fmt s, condZ) := rfl

theorem rsqrtNum_zero : rsqrtNum c f fmt a (.fin s 0 e) = (fpInf fmt s, condZ) := rfl

theorem rsqrtNum_neg (nonzero : m ≠ 0) :
    rsqrtNum c f fmt a (.fin true m e) = (defaultQNaN fmt, condV) := if_neg nonzero

/-- The operations of one operand look for a NaN before anything else. -/
theorem nan_first_unary {r : Word × Conds}
    (h : r ∈ [fpAbs c fmt a, fpNeg c fmt a, fpRecip c f fmt a, fpRsqrt c f fmt a]) :
    ∃ op k, r = nanRule c op fmt [decodeNum fmt a] a 0 0 k := by
  simp only [List.mem_cons, List.not_mem_nil, or_false] at h
  rcases h with rfl | rfl | rfl | rfl
  · exact ⟨.abs, _, rfl⟩
  · exact ⟨.neg, _, rfl⟩
  · exact ⟨.recip, _, rfl⟩
  · exact ⟨.rsqrt, _, rfl⟩

/-- Settles O47: the NaN operands, the sign bit, the special operands of RECIP and RSQRT, then the
instructions by the number of their operands. -/
theorem fpArithmetic : Obligations.FpArithmetic := by
  refine ⟨?values, fun s fd fs ft => ?instructions⟩
  case values =>
    intro c f fmt a float
    dsimp only
    refine ⟨fun signals r member => ?signaling, fun quiet default r member => ?quiet, fun number => ?signs,
      fun finite zero => ?zeros, fun neg inf => ?infinities, fun finite negative => ?negatives⟩
    case signaling =>
      obtain ⟨op, k, rfl⟩ := nan_first_unary member
      exact nanRule_signaling (by simp [signals])
    case quiet =>
      obtain ⟨op, k, rfl⟩ := nan_first_unary member
      exact nanRule_quiet default (by simp [quiet]) (by simp [quiet])
    case signs =>
      rw [fpAbs_numbers rfl number, fpNeg_numbers rfl number]
      refine ⟨rfl, rfl, fun k hk => ?_, fun k hk => ?_⟩
      · rw [BitVec.getLsbD_and, BitVec.getLsbD_not, getLsbD_signMask float hk, decide_eq_true hk,
          Bool.true_and]
        rfl
      · rw [BitVec.getLsbD_xor, getLsbD_signMask float hk]
    case zeros =>
      obtain ⟨s, m, e, ha⟩ := Num.eq_fin_of_isFinite finite
      rw [ha, Num.toRat_fin_eq_zero] at zero
      subst zero
      rw [fpRecip_numbers ha rfl, fpRsqrt_numbers ha rfl, signBit_of_fin ha]
      exact ⟨recipNum_zero, rsqrtNum_zero⟩
    case infinities => exact ⟨fpRecip_numbers inf rfl, fpRsqrt_numbers inf rfl⟩
    case negatives =>
      obtain ⟨s, m, e, ha⟩ := Num.eq_fin_of_isFinite finite
      rw [ha, Num.toRat_fin_neg] at negative
      obtain ⟨rfl, nonzero⟩ := negative
      exact (fpRsqrt_numbers ha rfl).trans (rsqrtNum_neg nonzero)
  case instructions =>
    exact ⟨binaryFp_of_exec rfl, binaryFp_of_exec rfl, binaryFp_of_exec rfl, binaryFp_of_exec rfl,
      binaryFp_of_exec rfl, binaryFp_of_exec rfl, binaryFp_of_exec rfl, binaryFp_of_exec rfl,
      unaryFp_of_exec rfl, unaryFp_of_exec rfl, unaryFp_of_exec rfl, unaryFp_of_exec rfl,
      unaryFp_of_exec rfl, unaryFp_of_exec rfl, unaryFp_of_exec rfl, unaryFp_of_exec rfl,
      unaryFp_of_exec rfl, unaryFp_of_exec rfl⟩

end Sys2Proof.Machine
end

section
/-! PROOFS. The multiply-accumulate instructions (46_fpu_arith.md R509 to R513): the product, the sum in both
arithmetic models, and the sign of the negated forms. -/

namespace Sys2Proof.Machine

open Sys2Proof

variable {c : Config} {f : BitVec 32} {op : FpOp} {fmt : Fmt} {a b d : Word} {x y z p : Num}
  {s t u sub neg : Bool} {m n k : Nat} {e g h : Int}

/-! ### The exact product (46_fpu_arith.md R502) -/

/-- The products that are invalid: zero times infinity. -/
def BadProduct (x y : Num) : Prop :=
  (∃ s, x = .inf s) ∧ y.isFinite = true ∧ y.toRat = 0 ∨ (∃ s, y = .inf s) ∧ x.isFinite = true ∧ x.toRat = 0

theorem Num.toRat_product :
    (Num.fin (s ^^ t) (m * n) (e + g)).toRat = (Num.fin s m e).toRat * (Num.fin t n g).toRat := by
  have signs : (if (s ^^ t) then -1 else 1 : ℚ) = (if s then -1 else 1) * if t then -1 else 1 := by
    cases s <;> cases t <;> norm_num
  rw [Num.toRat, Num.toRat, Num.toRat, zpow_add₀ two_ne_zero, Nat.cast_mul, signs]
  ring

theorem mulExact_bad (bad : BadProduct x y) : mulExact x y = none := by
  rcases bad with ⟨⟨s, rfl⟩, finite, zero⟩ | ⟨⟨s, rfl⟩, finite, zero⟩
  · obtain ⟨t, n, g, rfl⟩ := Num.eq_fin_of_isFinite finite
    exact if_pos (Num.toRat_fin_eq_zero.mp zero)
  · obtain ⟨t, n, g, rfl⟩ := Num.eq_fin_of_isFinite finite
    exact if_pos (Num.toRat_fin_eq_zero.mp zero)

/-- A product with an infinite factor is infinite, with the sign of the product. -/
theorem mulExact_infinite (ha : decodeNum fmt a = x) (hb : decodeNum fmt b = y) (nx : x.isNaN = false)
    (ny : y.isNaN = false) (good : ¬BadProduct x y) (infinite : (∃ s, x = .inf s) ∨ ∃ s, y = .inf s) :
    mulExact x y = some (.inf (signBit fmt a ^^ signBit fmt b)) := by
  cases x with
  | nan => cases nx
  | inf s =>
    cases y with
    | nan => cases ny
    | inf t => rw [signBit_of_inf ha, signBit_of_inf hb]; rfl
    | fin t n g =>
      have nonzero : n ≠ 0 := fun zero =>
        good (.inl ⟨⟨s, rfl⟩, rfl, Num.toRat_fin_eq_zero.mpr zero⟩)
      rw [signBit_of_inf ha, signBit_of_fin hb]
      exact if_neg nonzero
  | fin s m e =>
    obtain ⟨_, not_inf⟩ | ⟨t, rfl⟩ := infinite
    · cases not_inf
    · have nonzero : m ≠ 0 := fun zero =>
        good (.inr ⟨⟨t, rfl⟩, rfl, Num.toRat_fin_eq_zero.mpr zero⟩)
      rw [signBit_of_fin ha, signBit_of_inf hb]
      exact if_neg nonzero

theorem Num.finite_or_inf (number : x.isNaN = false) : x.isFinite = true ∨ ∃ s, x = .inf s := by
  cases x with
  | nan => cases number
  | inf s => exact .inr ⟨s, rfl⟩
  | fin => exact .inl rfl

theorem mulExact_good (ha : decodeNum fmt a = x) (hb : decodeNum fmt b = y) (nx : x.isNaN = false)
    (ny : y.isNaN = false) (good : ¬BadProduct x y) : ∃ p, mulExact x y = some p ∧ p.isNaN = false := by
  by_cases infinite : (∃ s, x = .inf s) ∨ ∃ s, y = .inf s
  · exact ⟨_, mulExact_infinite ha hb nx ny good infinite, rfl⟩
  · obtain ⟨not_inf_x, not_inf_y⟩ := not_or.mp infinite
    obtain ⟨s, m, e, rfl⟩ := Num.eq_fin_of_isFinite ((Num.finite_or_inf nx).resolve_right not_inf_x)
    obtain ⟨t, n, g, rfl⟩ := Num.eq_fin_of_isFinite ((Num.finite_or_inf ny).resolve_right not_inf_y)
    exact ⟨_, rfl, rfl⟩

/-! ### The addend, negated in the subtracting forms -/

/-- What is added: the third operand, or its negation. -/
def addend (sub : Bool) (z : Num) : Num := if sub then negNum z else z

theorem addend_fin : addend sub (.fin t n g) = .fin (t ^^ sub) n g := by
  cases sub
  · rw [Bool.xor_false]; rfl
  · rw [Bool.xor_true]; rfl

theorem addend_inf : addend sub (.inf t) = .inf (t ^^ sub) := by
  cases sub
  · rw [Bool.xor_false]; rfl
  · rw [Bool.xor_true]; rfl

theorem toRat_addend_fin :
    (Num.fin (t ^^ sub) n g).toRat = (if sub then -1 else 1) * (Num.fin t n g).toRat := by
  cases sub
  · simp
  · rw [Bool.xor_true, Num.toRat_not]
    simp

/-- The sum of a product and the addend: ADD, or SUB of the addend itself. -/
theorem addNum_addend (ha : decodeNum fmt a = x) (hb : decodeNum fmt b = y) (nx : x.isNaN = false)
    (ny : y.isNaN = false) :
    addNum c f fmt x (addend sub y) = if sub then fpSub c f fmt a b else fpAdd c f fmt a b := by
  cases sub
  · exact (fpAdd_numbers ha hb nx ny).symm
  · exact (fpSub_numbers ha hb nx ny).symm

/-! ### The value (46_fpu_arith.md R513) -/

theorem fpMadd_eq_nanRule : fpMadd c f op sub false fmt d a b =
    nanRule c op fmt [decodeNum fmt d, decodeNum fmt a, decodeNum fmt b] d a b
      (maddNum c f fmt (decodeNum fmt a) (decodeNum fmt b) (addend sub (decodeNum fmt d))) := rfl

theorem fpMadd_numbers (ha : decodeNum fmt a = x) (hb : decodeNum fmt b = y) (hd : decodeNum fmt d = z)
    (nx : x.isNaN = false) (ny : y.isNaN = false) (nz : z.isNaN = false) :
    fpMadd c f op sub false fmt d a b = maddNum c f fmt x y (addend sub z) := by
  rw [fpMadd_eq_nanRule, nanRule_numbers, ha, hb, hd]
  simp [ha, hb, hd, nx, ny, nz]

theorem maddNum_bad (bad : BadProduct x y) : maddNum c f fmt x y z = (defaultQNaN fmt, condV) := by
  rw [maddNum, mulExact_bad bad, invalidResult]

theorem maddNum_unrounded (model : c.madd = .unrounded) (product : mulExact x y = some p) :
    maddNum c f fmt x y z = addNum c f fmt p z := by
  rw [maddNum, product, model]

theorem roundNum_isNaN (float : fmt = .s ∨ fmt = .d) (number : p.isNaN = false) :
    (decodeNum fmt (roundNum c f fmt p).1).isNaN = false := by
  cases p with
  | nan => cases number
  | inf s => exact overflowResult_isNaN float 0 s
  | fin s m e => exact roundValue_isNaN float

/-- In the rounded model the product is MUL's result, and the sum is taken of that (log 38). -/
theorem maddNum_rounded (float : fmt = .s ∨ fmt = .d) (model : c.madd = .rounded)
    (product : mulExact x y = some p) (number : p.isNaN = false) (mul : fpMul c f fmt a b = mulNum c f fmt x y)
    (hd : decodeNum fmt d = z) (nz : z.isNaN = false) :
    let m := fpMul c f fmt a b
    let t := if sub then fpSub c f fmt m.1 d else fpAdd c f fmt m.1 d
    maddNum c f fmt x y (addend sub z) = (t.1, m.2 ||| t.2) := by
  have mul_rounds : fpMul c f fmt a b = roundNum c f fmt p := by rw [mul, mulNum, product]
  have sum := addNum_addend (c := c) (f := f) (sub := sub) (a := (roundNum c f fmt p).1) rfl hd
    (roundNum_isNaN float number) nz
  rw [maddNum, product, model]
  dsimp only
  rw [mul_rounds, sum]

/-- An infinite product: that infinity, unless the addend is the opposite one. -/
theorem addNum_infinite (hd : decodeNum fmt d = z) (nz : z.isNaN = false) :
    addNum c f fmt (.inf s) (addend sub z) =
      if z.isFinite = true ∨ s = (signBit fmt d ^^ sub) then (fpInf fmt s, condNone)
      else (defaultQNaN fmt, condV) := by
  cases z with
  | nan => cases nz
  | fin u k h =>
    rw [addend_fin, if_pos (.inl rfl)]
    rfl
  | inf u =>
    simp only [addend_inf, signBit_of_inf hd, Num.isFinite, Bool.false_eq_true, false_or]
    rfl

theorem Delivers.sign_of_no_units {r : Word × Conds} {v : ℚ} (delivers : Delivers c f fmt r v s) :
    ∃ neg mant exp, r = roundValue c f fmt neg mant exp false ∧ (Num.fin neg mant exp).toRat = v ∧
      (mant = 0 → neg = s) := by
  obtain ⟨neg, mant, exp, result, value, sign⟩ := delivers
  exact ⟨neg, mant, exp, result, value, fun zero => sign (value ▸ Num.toRat_fin_eq_zero.mpr zero)⟩

/-- In the unrounded model, the exact sum of finite numbers is delivered. -/
theorem maddNum_delivers (model : c.madd = .unrounded) :
    Delivers c f fmt (maddNum c f fmt (.fin s m e) (.fin t n g) (addend sub (.fin u k h)))
      ((Num.fin s m e).toRat * (Num.fin t n g).toRat + (if sub then -1 else 1) * (Num.fin u k h).toRat)
      (if (s ^^ t) = (u ^^ sub) then s ^^ t else decide (fcsrRm f = 3)) := by
  rw [maddNum_unrounded model rfl, addend_fin, ← toRat_addend_fin, ← Num.toRat_product]
  exact addNum_delivers

/-! ### The negated forms -/

/-- The sign bit of the result is inverted; a NaN is unchanged, or inverted by a part (log 16). -/
theorem negResult_sign (r : Word × Conds) :
    (negResult c op fmt d a b r).2 = r.2 ∧
      if (decodeNum fmt r.1).isNaN then
        (negResult c op fmt d a b r).1 = r.1 ∨
          c.qnan = .part ∧ (negResult c op fmt d a b r).1 = r.1 ^^^ signMask fmt
      else (negResult c op fmt d a b r).1 = r.1 ^^^ signMask fmt := by
  unfold negResult
  cases number : decodeNum fmt r.1 with
  | inf | fin => exact ⟨rfl, rfl⟩
  | nan q =>
    cases part : c.qnan with
    | default => exact ⟨rfl, .inl rfl⟩
    | part =>
      cases inverts : Config.nanNegOracle op fmt d a b with
      | false => exact ⟨by simp, .inl (by simp)⟩
      | true => exact ⟨by simp, .inr ⟨rfl, by simp⟩⟩

/-- Settles O48: the NaN operands, the invalid product, the two arithmetic models, the sign of the negated
forms, then the instructions. -/
theorem fpMultiplyAdd : Obligations.FpMultiplyAdd := by
  refine ⟨?values, fun s fd fr fs ft => ?instructions⟩
  case values =>
    intro c f op sub fmt d a b float x y z r sp sd invalid noNaN badProduct
    refine ⟨fun signals => ?signaling, fun no_x no_y no_z quiet default => ?quiet, fun numbers bad => ?bad,
      fun numbers good model => ⟨fun finite_x finite_y finite_z => ?finite,
        fun finite_x finite_y inf_z => ?inf_addend, fun infinite => ?inf_product⟩,
      fun numbers good model => ?rounded, ?negated⟩
    case signaling =>
      exact nanRule_signaling (by simpa [eq_comm (a := Num.nan true), or_comm, or_left_comm] using signals)
    case quiet =>
      refine nanRule_quiet default ?_ ?_
      · simp [no_x.symm, no_y.symm, no_z.symm, x, y, z]
      · simpa [eq_comm (a := Num.nan false), or_comm, or_left_comm] using quiet
    case bad =>
      obtain ⟨nx, ny, nz⟩ := numbers
      exact (fpMadd_numbers rfl rfl rfl nx ny nz).trans (maddNum_bad bad)
    case finite =>
      obtain ⟨s, m, e, ha⟩ := Num.eq_fin_of_isFinite finite_x
      obtain ⟨t, n, g, hb⟩ := Num.eq_fin_of_isFinite finite_y
      obtain ⟨u, k, h, hd⟩ := Num.eq_fin_of_isFinite finite_z
      simp only [x, y, z, r, sp, sd, fpMadd_numbers ha hb hd rfl rfl rfl, ha, hb, hd, signBit_of_fin ha,
        signBit_of_fin hb, signBit_of_fin hd]
      exact (maddNum_delivers model).sign_of_no_units
    case inf_addend =>
      obtain ⟨s, m, e, ha⟩ := Num.eq_fin_of_isFinite finite_x
      obtain ⟨t, n, g, hb⟩ := Num.eq_fin_of_isFinite finite_y
      obtain ⟨u, hd⟩ := inf_z
      simp only [r, sd, signBit_of_inf hd, fpMadd_numbers ha hb hd rfl rfl rfl]
      rw [maddNum_unrounded model rfl, addend_inf]
      rfl
    case inf_product =>
      obtain ⟨nx, ny, nz⟩ := numbers
      simp only [r, fpMadd_numbers rfl rfl rfl nx ny nz]
      rw [maddNum_unrounded model (mulExact_infinite rfl rfl nx ny good infinite)]
      exact addNum_infinite rfl nz
    case rounded =>
      obtain ⟨nx, ny, nz⟩ := numbers
      obtain ⟨p, product, number⟩ := mulExact_good rfl rfl nx ny good
      exact (fpMadd_numbers rfl rfl rfl nx ny nz).trans
        (maddNum_rounded float model product number (fpMul_numbers rfl rfl nx ny) rfl nz)
    case negated =>
      rw [← signMask_eq float]
      exact negResult_sign r
  case instructions =>
    exact ⟨ternaryFp_of_exec rfl, ternaryFp_of_exec rfl, ternaryFp_of_exec rfl, ternaryFp_of_exec rfl,
      ternaryFp_of_exec rfl, ternaryFp_of_exec rfl, ternaryFp_of_exec rfl, ternaryFp_of_exec rfl⟩

end Sys2Proof.Machine
end

section
/-! SUPPORT. Quotients and square roots (46_fpu_arith.md R503, R504, R507, R508): the integer found, with what lies
beyond it, stands for the exact result. -/

namespace Sys2Proof.Machine

open Sys2Proof

variable {c : Config} {f : BitVec 32} {fmt : Fmt} {s t neg : Bool} {m n k r : Nat} {e g h : Int} {x : ℚ}

/-! ### Integer square roots -/

theorem lt_two_pow_bitLength (n : Nat) : n < 2 ^ bitLength n := by
  unfold bitLength
  split
  · next zero => simp [zero]
  · exact Nat.lt_log2_self

/-- Bit by bit: what is found is a root from below, and its successor is one from above. -/
theorem sqrtFrom_bounds (low : r * r ≤ n) (high : n < (r + 2 ^ k) * (r + 2 ^ k)) :
    sqrtFrom n k r * sqrtFrom n k r ≤ n ∧ n < (sqrtFrom n k r + 1) * (sqrtFrom n k r + 1) := by
  induction k generalizing r with
  | zero => exact ⟨low, high⟩
  | succ k ih =>
    rw [sqrtFrom]
    split
    · next fits =>
      refine ih fits ?_
      rwa [add_assoc, ← two_mul, ← pow_succ']
    · next exceeds => exact ih low (not_le.mp exceeds)

theorem intSqrt_bounds (n : Nat) : intSqrt n * intSqrt n ≤ n ∧ n < (intSqrt n + 1) * (intSqrt n + 1) := by
  refine sqrtFrom_bounds (Nat.zero_le _) ?_
  calc n < 2 ^ bitLength n := lt_two_pow_bitLength n
    _ ≤ 2 ^ (bitLength n / 2 + 1 + (bitLength n / 2 + 1)) := Nat.pow_le_pow_right two_pos (by omega)
    _ = _ := by rw [pow_add, Nat.zero_add]

theorem two_pow_le_intSqrt (long : 2 ^ (2 * k) ≤ n) : 2 ^ k ≤ intSqrt n := by
  have square : 2 ^ k * 2 ^ k < (intSqrt n + 1) * (intSqrt n + 1) := by
    rw [← pow_add, ← two_mul]
    exact long.trans_lt (intSqrt_bounds n).2
  exact Nat.lt_succ_iff.mp (Nat.mul_self_lt_mul_self_iff.mp square)

theorem sq_mul_two_zpow (x : ℚ) (h : Int) : (x * 2 ^ h) ^ 2 = x * x * 2 ^ (2 * h) := by
  rw [two_mul, zpow_add₀ two_ne_zero]
  ring

theorem shiftLeft_mul_two_zpow (m k : Nat) (place : k + h = e) :
    ((m <<< k : Nat) : ℚ) * 2 ^ h = m * 2 ^ e := by
  rw [Nat.shiftLeft_eq, Nat.cast_mul, Nat.cast_pow, Nat.cast_ofNat, mul_assoc, ← zpow_natCast,
    ← zpow_add₀ two_ne_zero, place]

/-- The value with an even exponent, and no fewer bits than asked for. -/
theorem evenScale_value (m : Nat) (e : Int) (k : Nat) :
    ((evenScale m e k).1 : ℚ) * 2 ^ (2 * (evenScale m e k).2) = m * 2 ^ e ∧
      m * 2 ^ (2 * k) ≤ (evenScale m e k).1 := by
  unfold evenScale
  split
  · refine ⟨shiftLeft_mul_two_zpow _ _ ?_, (Nat.shiftLeft_eq ..).ge⟩
    push_cast
    omega
  · refine ⟨shiftLeft_mul_two_zpow _ _ ?_, ?_⟩
    · push_cast
      omega
    · rw [Nat.shiftLeft_eq]
      exact Nat.mul_le_mul_left _ (Nat.pow_le_pow_right two_pos (by omega))

/-! ### Exact results that are not written out -/

/-- `r` is the delivery of a value within which the exact result lies, the part beyond it being reported when
there is one, with more bits than rounding needs (44_fpu_model.md R455). -/
def DeliversRest (c : Config) (f : BitVec 32) (fmt : Fmt) (r : Word × Conds) (neg : Bool)
    (atMost below exact : ℚ → Prop) : Prop :=
  ∃ mant exp rest, r = roundValue c f fmt neg mant exp rest ∧ 2 ^ (fmtPrec fmt + 1) ≤ mant ∧
    atMost (mant * (2 : ℚ) ^ exp) ∧ below ((mant + 1) * (2 : ℚ) ^ exp) ∧
    (rest = false ↔ exact (mant * (2 : ℚ) ^ exp))

/-- A quotient of naturals, in units of a power of two. -/
theorem div_bounds (positive : 0 < n) :
    ((m / n : Nat) : ℚ) ≤ m / n ∧ (m / n : ℚ) < (m / n : Nat) + 1 ∧
      (m % n = 0 ↔ ((m / n : Nat) : ℚ) = m / n) := by
  have scale : (0 : ℚ) < n := by exact_mod_cast positive
  refine ⟨Nat.cast_div_le, ?_, ?_⟩
  · rw [div_lt_iff₀ scale, mul_comm]
    exact_mod_cast Nat.lt_mul_div_succ m positive
  · rw [eq_div_iff scale.ne']
    have split := Nat.div_add_mod' m n
    norm_cast
    omega

theorem two_pow_le_quotient (nonzero : m ≠ 0) (positive : 0 < n) :
    2 ^ k ≤ (m <<< (k + bitLength n)) / n := by
  rw [Nat.le_div_iff_mul_le positive, Nat.shiftLeft_eq, pow_add]
  calc 2 ^ k * n ≤ 2 ^ k * 2 ^ bitLength n := Nat.mul_le_mul_left _ (lt_two_pow_bitLength n).le
    _ ≤ _ := Nat.le_mul_of_pos_left _ (Nat.pos_of_ne_zero nonzero)

theorem divNum_delivers (dividend : m ≠ 0) (divisor : n ≠ 0) (hx : m * (2 : ℚ) ^ e / (n * 2 ^ g) = x) :
    DeliversRest c f fmt (divNum c f fmt (.fin s m e) (.fin t n g)) (s ^^ t) (· ≤ x) (x < ·) (· = x) := by
  have positive : 0 < n := Nat.pos_of_ne_zero divisor
  obtain ⟨k, hk⟩ : ∃ k, k = fmtPrec fmt + 3 + bitLength n := ⟨_, rfl⟩
  have unit : (0 : ℚ) < 2 ^ (e - g - k) := by positivity
  have value : ((m <<< k : Nat) / n : ℚ) * 2 ^ (e - g - k) = x := by
    have scale : (n : ℚ) ≠ 0 := Nat.cast_ne_zero.mpr divisor
    rw [← hx, Nat.shiftLeft_eq, zpow_sub₀ two_ne_zero, zpow_sub₀ two_ne_zero, zpow_natCast]
    push_cast
    field_simp
  obtain ⟨le, lt, exact_iff⟩ := div_bounds (m := m <<< k) positive
  refine ⟨(m <<< k) / n, e - g - k, decide ((m <<< k) % n ≠ 0), ?_, ?_, ?_, ?_, ?_⟩
  · rw [divNum, if_neg divisor, if_neg dividend, hk]
  · refine le_trans (Nat.pow_le_pow_right two_pos ?_) (hk ▸ two_pow_le_quotient dividend positive)
    omega
  · exact value ▸ mul_le_mul_of_nonneg_right le unit.le
  · exact value ▸ mul_lt_mul_of_pos_right lt unit
  · rw [decide_eq_false_iff_not, not_not, exact_iff]
    show _ ↔ _ * _ = x
    rw [← value, mul_left_inj' unit.ne']

theorem sqrtNum_delivers (nonzero : m ≠ 0) (hx : m * (2 : ℚ) ^ e = x) :
    DeliversRest c f fmt (sqrtNum c f fmt (.fin false m e)) false (· ^ 2 ≤ x) (x < · ^ 2) (· ^ 2 = x) := by
  obtain ⟨value, long⟩ := evenScale_value m e (fmtPrec fmt + 3)
  obtain ⟨⟨m', h⟩, scaled⟩ : ∃ p, evenScale m e (fmtPrec fmt + 3) = p := ⟨_, rfl⟩
  rw [scaled, hx] at value
  rw [scaled] at long
  obtain ⟨low, high⟩ := intSqrt_bounds m'
  have unit : (0 : ℚ) < 2 ^ (2 * h) := by positivity
  refine ⟨intSqrt m', h, decide (intSqrt m' * intSqrt m' ≠ m'), ?_, ?_, ?_, ?_, ?_⟩
  · simp only [sqrtNum, if_neg nonzero, scaled, Bool.false_eq_true, if_false]
  · calc 2 ^ (fmtPrec fmt + 1) ≤ 2 ^ (fmtPrec fmt + 3) := Nat.pow_le_pow_right two_pos (by omega)
      _ ≤ _ := two_pow_le_intSqrt ((Nat.le_mul_of_pos_left _ (Nat.pos_of_ne_zero nonzero)).trans long)
  · show (_ * _) ^ 2 ≤ x
    rw [sq_mul_two_zpow, ← value]
    exact mul_le_mul_of_nonneg_right (by exact_mod_cast low) unit.le
  · show x < (_ * _) ^ 2
    rw [sq_mul_two_zpow, ← value]
    exact mul_lt_mul_of_pos_right (by exact_mod_cast high) unit
  · rw [decide_eq_false_iff_not, not_not]
    show _ ↔ (_ * _) ^ 2 = x
    rw [sq_mul_two_zpow, ← value, mul_left_inj' unit.ne']
    norm_cast

/-- The square of a candidate times the operand, `m * 2 ^ (2 * h)`, in the scale of the candidate. -/
theorem sq_mul_operand (u : ℚ) (m j : Nat) (h : Int) :
    (u * 2 ^ (-h - j)) ^ 2 * (m * 2 ^ (2 * h)) = u * u * m / (2 ^ (2 * j) : Nat) := by
  have scale : (2 : ℚ) ^ (2 * (-h - j)) * 2 ^ (2 * h) = ((2 ^ (2 * j) : Nat) : ℚ)⁻¹ := by
    rw [← zpow_add₀ two_ne_zero, Nat.cast_pow, Nat.cast_ofNat, ← zpow_natCast, ← zpow_neg]
    congr 1
    push_cast
    ring
  rw [sq_mul_two_zpow, div_eq_mul_inv, ← scale]
  ring

theorem rsqrtExact_delivers (nonzero : m ≠ 0) (hx : m * (2 : ℚ) ^ e = x) :
    DeliversRest c f fmt (rsqrtExact c f fmt m e) false (· ^ 2 * x ≤ 1) (1 < · ^ 2 * x) (· ^ 2 * x = 1) := by
  obtain ⟨value, long⟩ := evenScale_value m e 0
  obtain ⟨⟨m', h⟩, scaled⟩ : ∃ p, evenScale m e 0 = p := ⟨_, rfl⟩
  rw [scaled, hx] at value
  rw [scaled] at long
  have positive : 0 < m' := (Nat.pos_of_ne_zero nonzero).trans_le (by simpa using long)
  obtain ⟨j, hj⟩ : ∃ j, j = fmtPrec fmt + 3 + bitLength m' := ⟨_, rfl⟩
  obtain ⟨low, high⟩ := intSqrt_bounds (2 ^ (2 * j) / m')
  rw [Nat.le_div_iff_mul_le positive] at low
  rw [Nat.div_lt_iff_lt_mul positive] at high
  have scale : (0 : ℚ) < (2 ^ (2 * j) : Nat) := by positivity
  obtain ⟨r, hr⟩ : ∃ r, r = intSqrt (2 ^ (2 * j) / m') := ⟨_, rfl⟩
  rw [← hr] at low high
  refine ⟨r, -h - j, decide (r * r * m' ≠ 2 ^ (2 * j)), ?_, ?_, ?_, ?_, ?_⟩
  · simp only [rsqrtExact, scaled, hr, hj]
  · calc 2 ^ (fmtPrec fmt + 1) ≤ 2 ^ (fmtPrec fmt + 3) := Nat.pow_le_pow_right two_pos (by omega)
      _ ≤ r := hr ▸ two_pow_le_intSqrt ?_
    rw [Nat.le_div_iff_mul_le positive]
    calc 2 ^ (2 * (fmtPrec fmt + 3)) * m' ≤ 2 ^ (2 * (fmtPrec fmt + 3)) * 2 ^ bitLength m' :=
          Nat.mul_le_mul_left _ (lt_two_pow_bitLength m').le
      _ ≤ 2 ^ (2 * j) := by
          rw [← pow_add]
          exact Nat.pow_le_pow_right two_pos (by omega)
  · show (_ * _) ^ 2 * x ≤ 1
    rw [← value, sq_mul_operand, div_le_one scale]
    exact_mod_cast low
  · show 1 < (_ * _) ^ 2 * x
    rw [← value, sq_mul_operand, one_lt_div scale]
    exact_mod_cast high
  · rw [decide_eq_false_iff_not, not_not]
    show _ ↔ (_ * _) ^ 2 * x = 1
    rw [← value, sq_mul_operand, div_eq_one_iff_eq scale.ne']
    norm_cast

end Sys2Proof.Machine
end

section
/-! PROOFS. Quotient, square root and reciprocals (46_fpu_arith.md R503, R504, R507, R508): the exact result is
delivered, and a part's own approximation stays in its bound (44_fpu_model.md R458, log 33). -/

namespace Sys2Proof.Machine

open Sys2Proof

variable {c : Config} {f : BitVec 32} {fmt : Fmt} {rm : BitVec 2} {neg s rest inexact : Bool} {mant m n k : Nat}
  {exp e g h q : Int} {r : Word × Conds} {a v : Word} {w x y u : ℚ}

/-! ### Results that neither overflow nor are flushed -/

/-- The conditions of such a result. -/
def Kept (f : BitVec 32) (e : Conds) : Prop :=
  e &&& condO = 0 ∧ (fcsrFlush f = true → e &&& condU = 0)

theorem Kept.of_or {e e' : Conds} (kept : Kept f (e ||| e')) : Kept f e := by
  have left {d : Conds} (apart : (e ||| e') &&& d = 0) : e &&& d = 0 := by
    rw [BitVec.and_or_distrib_right] at apart
    exact (BitVec.or_eq_zero_iff.mp apart).1
  obtain ⟨no_overflow, no_flush⟩ := kept
  exact ⟨left no_overflow, fun flush => left (no_flush flush)⟩

theorem not_kept_overflow : ¬Kept f (condO ||| condI) := fun kept => absurd kept.1 (by decide)

/-- A nonzero magnitude that is delivered so is rounded to a multiple. -/
theorem exists_roundsTo (float : fmt = .s ∨ fmt = .d) (long : rest = true → 2 ^ (fmtPrec fmt + 1) ≤ mant)
    (nonzero : mant ≠ 0) (kept : Kept f (roundValue c f fmt neg mant exp rest).2) :
    ∃ n q inexact,
      RoundsTo fmt (fcsrRm f) neg mant exp rest (roundValue c f fmt neg mant exp rest).1 n q inexact := by
  rcases roundValue_cases (c := c) (f := f) (neg := neg) (exp := exp) float long nonzero with
    overflows | ⟨flush, conds, -⟩ | rounded
  · rw [overflows] at kept
    exact absurd kept not_kept_overflow
  · have underflow := kept.2 flush
    rw [conds] at underflow
    exact absurd underflow (by decide)
  · exact rounded

/-- `y` may be the magnitude to be rounded: `mant * 2 ^ exp`, or with `rest` a little more. -/
def Within (mant : Nat) (exp : Int) (rest : Bool) (y : ℚ) : Prop :=
  if rest then mant * (2 : ℚ) ^ exp < y ∧ y < (mant + 1) * (2 : ℚ) ^ exp else y = mant * (2 : ℚ) ^ exp

theorem Within.magnitude (within : Within mant exp rest y) (finer : rest = true → exp < q) :
    Magnitude mant exp rest q (y * 2 ^ (-q)) := by
  have unit : (0 : ℚ) < 2 ^ (-q) := by positivity
  have scaled (z : ℚ) : z * 2 ^ (exp - q) = z * 2 ^ exp * 2 ^ (-q) := by
    rw [sub_eq_add_neg, zpow_add₀ two_ne_zero, mul_assoc]
  unfold Magnitude
  rw [scaled, scaled]
  cases rest with
  | false => exact congrArg (· * (2 : ℚ) ^ (-q)) within
  | true =>
    exact ⟨finer rfl, mul_lt_mul_of_pos_right within.1 unit, mul_lt_mul_of_pos_right within.2 unit⟩

/-- Rounding is off by less than one unit in the last place of the result. -/
theorem RoundsTo.error_lt (rounded : RoundsTo fmt rm neg mant exp rest v n q inexact)
    (within : Within mant exp rest y) : |n * (2 : ℚ) ^ q - y| < 2 ^ ulpExp fmt v := by
  obtain ⟨-, near, -⟩ := roundingToAMultiple _ _ _ _ _ _ _ _ _ (within.magnitude rounded.finer) rounded.rounds
  have unit : (0 : ℚ) < 2 ^ q := by positivity
  have inverse : (2 : ℚ) ^ (-q) * 2 ^ q = 1 := by rw [zpow_neg, inv_mul_cancel₀ unit.ne']
  calc |n * (2 : ℚ) ^ q - y| = |(n - y * 2 ^ (-q)) * 2 ^ q| := by rw [sub_mul, mul_assoc y, inverse, mul_one]
    _ = |n - y * 2 ^ (-q)| * 2 ^ q := by rw [abs_mul, abs_of_pos unit]
    _ < 1 * 2 ^ q := mul_lt_mul_of_pos_right near unit
    _ ≤ 2 ^ ulpExp fmt v := by
      rw [one_mul]
      exact zpow_le_zpow_right₀ one_le_two rounded.unit

/-- A number of the format is delivered as it is. -/
theorem roundValue_representable (float : fmt = .s ∨ fmt = .d) (small : n < 2 ^ fmtPrec fmt)
    (least : fmtEmin fmt - (fmtPrec fmt - 1) ≤ g) (kept : Kept f (roundValue c f fmt neg n g false).2) :
    StandsFor fmt (roundValue c f fmt neg n g false).1 neg (n * 2 ^ g) := by
  by_cases zero : n = 0
  · subst zero
    rw [Nat.cast_zero, zero_mul]
    exact fpZero_standsFor float
  · obtain ⟨n', q, inexact, rounds, -, placed, value, -⟩ :=
      exists_roundsTo (rest := false) float nofun zero kept
    have unit : q ≤ g := by
      rcases placed with rfl | low
      · exact least
      · have := binade_lt_of_small small low
        omega
    obtain rfl : false = inexact := by
      rw [roundAt, if_pos unit] at rounds
      exact congrArg Prod.snd rounds
    rwa [roundAt_exact rounds] at value

/-- Magnitudes of 2^(E_max + 1) or more overflow. -/
theorem not_kept_of_big (float : fmt = .s ∨ fmt = .d) (nonzero : mant ≠ 0)
    (big : (2 : ℚ) ^ ((fmtEmax fmt : Int) + 1) ≤ mant * 2 ^ exp) :
    ¬Kept f (roundValue c f fmt neg mant exp false).2 := by
  obtain ⟨b, n, inexact, h⟩ := exists_rounded (fmt := fmt) (rm := fcsrRm f) (neg := neg) (exp := exp)
    (rest := false) nofun nonzero
  rw [h.roundValue_overflow float (h.overflows big)]
  exact not_kept_overflow

/-! ### A part's own approximation (log 33) -/

theorem candidateMag_cases (h : candidateMag fmt v = some (n, g)) :
    (n < 2 ^ fmtPrec fmt ∧ fmtEmin fmt - (fmtPrec fmt - 1) ≤ g) ∨ n = 1 ∧ g = fmtEmax fmt + 1 := by
  unfold candidateMag at h
  cases number : decodeNum fmt v with
  | nan => simp [number] at h
  | inf =>
    simp only [number, Option.some.injEq, Prod.mk.injEq] at h
    exact .inr ⟨h.1.symm, h.2.symm⟩
  | fin s m e =>
    simp only [number, Option.some.injEq, Prod.mk.injEq] at h
    obtain ⟨rfl, rfl⟩ := h
    obtain ⟨small, least, -⟩ := fin_bounds number
    exact .inl ⟨small, least⟩

/-- The result is the correctly rounded one, or a candidate within the bound. -/
theorem approxResult_cases {near : Nat → Int → Int → Bool} {exact : Nat → Int → Bool}
    (float : fmt = .s ∨ fmt = .d) (kept : Kept f (approxResult c f fmt neg r v near exact).2) :
    approxResult c f fmt neg r v near exact = r ∨
      ∃ n g, near n g (ulpExp fmt r.1) = true ∧
        StandsFor fmt (approxResult c f fmt neg r v near exact).1 neg (n * 2 ^ g) := by
  cases candidate : candidateMag fmt (v &&& fmtMask fmt) with
  | none =>
    left
    simp only [approxResult, candidate]
  | some mag =>
    obtain ⟨n, g⟩ := mag
    simp only [approxResult, candidate] at kept ⊢
    split at kept
    · next taken =>
      right
      rw [if_pos taken]
      obtain ⟨-, bound⟩ := Bool.and_eq_true_iff.mp taken
      refine ⟨n, g, bound, ?_⟩
      rcases candidateMag_cases candidate with ⟨small, least⟩ | ⟨rfl, rfl⟩
      · exact roundValue_representable float small least kept.of_or
      · refine absurd kept.of_or (not_kept_of_big float one_ne_zero ?_)
        rw [Nat.cast_one, one_mul]
    · next refused =>
      left
      rw [if_neg refused]

/-! ### The bounds of a candidate (log 33) -/

theorem shift_to_unit (m : Nat) (unit : q ≤ e) :
    ((m <<< (e - q).toNat : Nat) : ℚ) * 2 ^ q = m * 2 ^ e :=
  shiftLeft_mul_two_zpow m _ (by omega)

theorem leScaled_iff : leScaled m e n g = true ↔ (m : ℚ) * 2 ^ e ≤ n * 2 ^ g := by
  have unit : (0 : ℚ) < 2 ^ min e g := by positivity
  rw [← shift_to_unit m (min_le_left e g), ← shift_to_unit n (min_le_right e g),
    mul_le_mul_iff_left₀ unit, Nat.cast_le]
  exact decide_eq_true_iff

/-- A candidate less or more some units in the last place, in a unit that divides both; the difference is
cut off at 0. -/
theorem candidate_sub_le (n k : Nat) (g q : Int) :
    (n : ℚ) * 2 ^ g - k * 2 ^ q ≤
      ((n <<< (g - min g q).toNat - k <<< (q - min g q).toNat : Nat) : ℚ) * 2 ^ min g q := by
  rw [← shift_to_unit n (min_le_left g q), ← shift_to_unit k (min_le_right g q), ← sub_mul]
  refine mul_le_mul_of_nonneg_right ?_ (by positivity)
  rw [sub_le_iff_le_add]
  exact_mod_cast le_tsub_add

theorem candidate_add (n k : Nat) (g q : Int) :
    ((n <<< (g - min g q).toNat + k <<< (q - min g q).toNat : Nat) : ℚ) * 2 ^ min g q =
      n * 2 ^ g + k * 2 ^ q := by
  rw [Nat.cast_add, add_mul, shift_to_unit n (min_le_left g q),
    shift_to_unit k (min_le_right g q)]

theorem recipNear_bound (nonzero : m ≠ 0) (near : recipNear n g m e q = true) :
    |n * (2 : ℚ) ^ g - 1 / (m * 2 ^ e)| ≤ 2 ^ q := by
  have positive : (0 : ℚ) < m * 2 ^ e := by
    have : (0 : ℚ) < m := by exact_mod_cast Nat.pos_of_ne_zero nonzero
    positivity
  have product (z : Nat) :
      ((z * m : Nat) : ℚ) * 2 ^ (min g q + e) = z * 2 ^ min g q * (m * 2 ^ e) := by
    rw [zpow_add₀ two_ne_zero]
    push_cast
    ring
  obtain ⟨low, high⟩ := Bool.and_eq_true_iff.mp near
  rw [leScaled_iff, product, Nat.cast_one, zpow_zero, one_mul] at low high
  rw [candidate_add, Nat.cast_one, one_mul] at high
  have below := (mul_le_mul_of_nonneg_right (candidate_sub_le n 1 g q) positive.le).trans low
  rw [Nat.cast_one, one_mul, ← le_div_iff₀ positive] at below
  rw [← div_le_iff₀ positive] at high
  exact abs_le.mpr ⟨by linarith, by linarith⟩

/-- `w` is within two units `u` of the inverse square root of `x`. -/
def RsqrtBound (x w u : ℚ) : Prop :=
  (2 * u < w → (w - 2 * u) ^ 2 * x ≤ 1) ∧ 1 ≤ (w + 2 * u) ^ 2 * x

theorem rsqrtNear_bound (near : rsqrtNear n g m e q = true) :
    RsqrtBound (m * 2 ^ e) (n * 2 ^ g) (2 ^ q) := by
  have product (z : Nat) :
      ((z * z * m : Nat) : ℚ) * 2 ^ (2 * min g q + e) = (z * 2 ^ min g q) ^ 2 * (m * 2 ^ e) := by
    rw [sq_mul_two_zpow, zpow_add₀ two_ne_zero]
    push_cast
    ring
  obtain ⟨low, high⟩ := Bool.and_eq_true_iff.mp near
  rw [leScaled_iff, product, Nat.cast_one, zpow_zero, one_mul] at low high
  rw [candidate_add, Nat.cast_ofNat] at high
  refine ⟨fun above => ?_, high⟩
  have below := candidate_sub_le n 2 g q
  rw [Nat.cast_ofNat] at below
  exact (mul_le_mul_of_nonneg_right (pow_le_pow_left₀ (by linarith) below 2) (by positivity)).trans low

/-! ### The bounds of the correctly rounded results -/

/-- The ends of the range the exact magnitude lies in are no farther from the result than its points. -/
theorem ends_of_error (near : ∀ y, Within mant exp rest y → |w - y| < u) :
    w - u ≤ mant * (2 : ℚ) ^ exp ∧
      if rest then (mant + 1) * (2 : ℚ) ^ exp ≤ w + u else mant * (2 : ℚ) ^ exp ≤ w + u := by
  cases rest with
  | false =>
    have := abs_lt.mp (near _ rfl)
    exact ⟨by linarith, by simp only [Bool.false_eq_true, if_false]; linarith⟩
  | true =>
    have range : (mant : ℚ) * 2 ^ exp < (mant + 1) * 2 ^ exp :=
      mul_lt_mul_of_pos_right (lt_add_one _) (by positivity)
    constructor
    · by_contra beyond
      obtain ⟨y, above, below⟩ := exists_between (lt_min range (not_le.mp beyond))
      have := abs_lt.mp (near y ⟨above, below.trans_le (min_le_left ..)⟩)
      linarith [below.trans_le (min_le_right ..)]
    · by_contra beyond
      obtain ⟨y, above, below⟩ := exists_between (max_lt range (not_le.mp beyond))
      have := abs_lt.mp (near y ⟨(le_max_left ..).trans_lt above, below⟩)
      linarith [(le_max_right ..).trans_lt above]

theorem rsqrtBound_of_ends (positive : 0 < x) (unit : 0 < u)
    (near : ∀ y, Within mant exp rest y → |w - y| < u) (low : (mant * (2 : ℚ) ^ exp) ^ 2 * x ≤ 1)
    (high : 1 < ((mant + 1) * (2 : ℚ) ^ exp) ^ 2 * x)
    (exact_iff : rest = false ↔ (mant * (2 : ℚ) ^ exp) ^ 2 * x = 1) : RsqrtBound x w u := by
  obtain ⟨below, above⟩ := ends_of_error near
  have start : (0 : ℚ) ≤ mant * 2 ^ exp := by positivity
  have widen {y z : ℚ} (nonneg : 0 ≤ y) (le : y ≤ z) : y ^ 2 * x ≤ z ^ 2 * x :=
    mul_le_mul_of_nonneg_right (pow_le_pow_left₀ nonneg le 2) positive.le
  refine ⟨fun large => (widen (by linarith) (by linarith)).trans low, ?_⟩
  cases rest with
  | false =>
    have above : mant * (2 : ℚ) ^ exp ≤ w + u := above
    exact (exact_iff.mp rfl).ge.trans (widen start (by linarith))
  | true =>
    have above : (mant + 1) * (2 : ℚ) ^ exp ≤ w + u := above
    exact high.le.trans (widen (by positivity) (by linarith))

theorem within_of_bounds (low : mant * (2 : ℚ) ^ exp ≤ x) (high : x < (mant + 1) * (2 : ℚ) ^ exp)
    (exact_iff : rest = false ↔ mant * (2 : ℚ) ^ exp = x) : Within mant exp rest x := by
  cases rest with
  | false => exact (exact_iff.mp rfl).symm
  | true => exact ⟨low.lt_of_ne (mt exact_iff.mpr nofun), high⟩

/-- What a delivery with the part beyond it reported is rounded to. -/
theorem exists_error_lt (float : fmt = .s ∨ fmt = .d) (long : 2 ^ (fmtPrec fmt + 1) ≤ mant)
    (kept : Kept f (roundValue c f fmt neg mant exp rest).2) :
    ∃ w, StandsFor fmt (roundValue c f fmt neg mant exp rest).1 neg w ∧ ∀ y, Within mant exp rest y →
      |w - y| < 2 ^ ulpExp fmt (roundValue c f fmt neg mant exp rest).1 := by
  have nonzero : mant ≠ 0 := ((Nat.two_pow_pos _).trans_le long).ne'
  obtain ⟨n, q, inexact, rounded⟩ := exists_roundsTo float (fun _ => long) nonzero kept
  exact ⟨n * 2 ^ q, rounded.value, fun y within => rounded.error_lt within⟩

/-! ### RECIP (46_fpu_arith.md R507) -/

/-- The correctly rounded reciprocal. -/
def recipRounded (c : Config) (f : BitVec 32) (fmt : Fmt) (s : Bool) (m : Nat) (e : Int) : Word × Conds :=
  divNum c f fmt (.fin false 1 0) (.fin s m e)

theorem recipNum_default (default : c.recip = .default) (nonzero : m ≠ 0) :
    recipNum c f fmt a (.fin s m e) = recipRounded c f fmt s m e := by
  simp only [recipNum, if_neg nonzero, default, recipRounded]

theorem recipNum_part (part : c.recip = .part) (nonzero : m ≠ 0) :
    recipNum c f fmt a (.fin s m e) =
      approxResult c f fmt s (recipRounded c f fmt s m e) (Config.recipOracle fmt (fcsrRm f) a)
        (fun n g q => recipNear n g m e q) (fun n g => productIsOne n g m e) := by
  simp only [recipNum, if_neg nonzero, part, recipRounded]

theorem recipRounded_delivers (nonzero : m ≠ 0) :
    DeliversRest c f fmt (recipRounded c f fmt s m e) s (· ≤ 1 / (m * (2 : ℚ) ^ e))
      (1 / (m * (2 : ℚ) ^ e) < ·) (· = 1 / (m * (2 : ℚ) ^ e)) := by
  have delivers := divNum_delivers (c := c) (f := f) (fmt := fmt) (s := false) (t := s) (e := 0) (g := e)
    (x := 1 / (m * (2 : ℚ) ^ e)) one_ne_zero nonzero (by simp)
  rwa [Bool.false_xor] at delivers

theorem recipRounded_bound (float : fmt = .s ∨ fmt = .d) (nonzero : m ≠ 0)
    (kept : Kept f (recipRounded c f fmt s m e).2) :
    ∃ w, StandsFor fmt (recipRounded c f fmt s m e).1 s w ∧
      |w - 1 / (m * (2 : ℚ) ^ e)| ≤ 2 ^ ulpExp fmt (recipRounded c f fmt s m e).1 := by
  obtain ⟨mant, exp, rest, result, long, low, high, exact_iff⟩ :=
    recipRounded_delivers (c := c) (f := f) (fmt := fmt) (s := s) (e := e) nonzero
  rw [result] at kept ⊢
  obtain ⟨w, value, error⟩ := exists_error_lt float long kept
  exact ⟨w, value, (error _ (within_of_bounds low high exact_iff)).le⟩

/-- The default's and a part's own reciprocal alike. -/
theorem recipNum_bound (float : fmt = .s ∨ fmt = .d) (nonzero : m ≠ 0)
    (kept : Kept f (recipNum c f fmt a (.fin s m e)).2) :
    ∃ w, StandsFor fmt (recipNum c f fmt a (.fin s m e)).1 s w ∧
      |w - 1 / (m * (2 : ℚ) ^ e)| ≤ 2 ^ ulpExp fmt (recipRounded c f fmt s m e).1 := by
  cases recip : c.recip with
  | default =>
    rw [recipNum_default recip nonzero] at kept ⊢
    exact recipRounded_bound float nonzero kept
  | part =>
    rw [recipNum_part recip nonzero] at kept ⊢
    rcases approxResult_cases float kept with rounded | ⟨n, g, near, value⟩
    · rw [rounded] at kept ⊢
      exact recipRounded_bound float nonzero kept
    · exact ⟨_, value, recipNear_bound nonzero near⟩

/-! ### RSQRT (46_fpu_arith.md R508) -/

theorem rsqrtNum_default (default : c.rsqrt = .default) (nonzero : m ≠ 0) :
    rsqrtNum c f fmt a (.fin false m e) = rsqrtExact c f fmt m e := by
  simp only [rsqrtNum, if_neg nonzero, default, Bool.false_eq_true, if_false]

theorem rsqrtNum_part (part : c.rsqrt = .part) (nonzero : m ≠ 0) :
    rsqrtNum c f fmt a (.fin false m e) =
      approxResult c f fmt false (rsqrtExact c f fmt m e) (Config.rsqrtOracle fmt (fcsrRm f) a)
        (fun n g q => rsqrtNear n g m e q) (fun n g => productIsOne (n * n) (2 * g) m e) := by
  simp only [rsqrtNum, if_neg nonzero, part, Bool.false_eq_true, if_false]

theorem rsqrtExact_bound (float : fmt = .s ∨ fmt = .d) (nonzero : m ≠ 0)
    (kept : Kept f (rsqrtExact c f fmt m e).2) :
    ∃ w, StandsFor fmt (rsqrtExact c f fmt m e).1 false w ∧
      RsqrtBound (m * 2 ^ e) w (2 ^ ulpExp fmt (rsqrtExact c f fmt m e).1) := by
  obtain ⟨mant, exp, rest, result, long, low, high, exact_iff⟩ :=
    rsqrtExact_delivers (c := c) (f := f) (fmt := fmt) (e := e) nonzero rfl
  rw [result] at kept ⊢
  obtain ⟨w, value, error⟩ := exists_error_lt float long kept
  have operand : (0 : ℚ) < m * 2 ^ e := by
    have : (0 : ℚ) < m := by exact_mod_cast Nat.pos_of_ne_zero nonzero
    positivity
  exact ⟨w, value, rsqrtBound_of_ends operand (by positivity) error low high exact_iff⟩

theorem rsqrtNum_bound (float : fmt = .s ∨ fmt = .d) (nonzero : m ≠ 0)
    (kept : Kept f (rsqrtNum c f fmt a (.fin false m e)).2) :
    ∃ w, StandsFor fmt (rsqrtNum c f fmt a (.fin false m e)).1 false w ∧
      RsqrtBound (m * 2 ^ e) w (2 ^ ulpExp fmt (rsqrtExact c f fmt m e).1) := by
  cases rsqrt : c.rsqrt with
  | default =>
    rw [rsqrtNum_default rsqrt nonzero] at kept ⊢
    exact rsqrtExact_bound float nonzero kept
  | part =>
    rw [rsqrtNum_part rsqrt nonzero] at kept ⊢
    rcases approxResult_cases float kept with rounded | ⟨n, g, near, value⟩
    · rw [rounded] at kept ⊢
      exact rsqrtExact_bound float nonzero kept
    · exact ⟨_, value, rsqrtNear_bound near⟩

/-! ### The statement -/

theorem Num.abs_toRat_fin : |(Num.fin s m e).toRat| = m * 2 ^ e := by
  cases s <;> simp [Num.toRat]

theorem Num.one_div_toRat_fin : 1 / (Num.fin s m e).toRat = (if s then -1 else 1) * (1 / (m * 2 ^ e)) := by
  cases s <;> simp [Num.toRat, inv_neg]

theorem Num.toRat_fin_pos (positive : 0 < (Num.fin s m e).toRat) :
    s = false ∧ (Num.fin s m e).toRat = m * 2 ^ e := by
  cases s with
  | false => exact ⟨rfl, by simp [Num.toRat]⟩
  | true =>
    have negative : (Num.fin true m e).toRat ≤ 0 := by
      rw [Num.toRat, if_pos rfl, mul_assoc, neg_one_mul]
      exact neg_nonpos.mpr (by positivity)
    exact absurd positive negative.not_gt

/-- Both magnitudes have the sign of the operand. -/
theorem abs_signed_sub (s : Bool) (w x : ℚ) :
    |(if s then -1 else 1) * w - (if s then -1 else 1) * x| = |w - x| := by
  rw [← mul_sub, abs_mul]
  cases s <;> simp

/-- Settles O56: the exact quotient and roots, then the bounds of the two approximate operations. -/
theorem quotientAndRootRoundTheExactResult : Obligations.QuotientAndRootRoundTheExactResult := by
  rintro c f fmt a b _ _ finite_a finite_b rfl rfl nonzero_a nonzero_b
  obtain ⟨s, m, e, ha⟩ := Num.eq_fin_of_isFinite finite_a
  obtain ⟨t, n, g, hb⟩ := Num.eq_fin_of_isFinite finite_b
  rw [ha, Ne, Num.toRat_fin_eq_zero] at nonzero_a
  rw [hb, Ne, Num.toRat_fin_eq_zero] at nonzero_b
  dsimp only
  simp only [fpDiv_numbers ha hb rfl rfl, fpRecip_numbers ha rfl, fpSqrt_numbers ha rfl,
    fpRsqrt_numbers ha rfl, signBit_of_fin ha, signBit_of_fin hb, ha, hb]
  refine ⟨?quotient, fun default => ?recip, fun positive => ⟨?sqrt, fun default => ?rsqrt⟩,
    fun float => ⟨?recip_bound, ?rsqrt_bound⟩⟩
  case quotient =>
    refine divNum_delivers nonzero_a nonzero_b ?_
    rw [abs_div, Num.abs_toRat_fin, Num.abs_toRat_fin]
  case recip =>
    rw [recipNum_default default nonzero_a, abs_div, abs_one, Num.abs_toRat_fin]
    exact recipRounded_delivers nonzero_a
  case sqrt =>
    obtain ⟨rfl, value⟩ := Num.toRat_fin_pos positive
    exact sqrtNum_delivers nonzero_a value.symm
  case rsqrt =>
    obtain ⟨rfl, value⟩ := Num.toRat_fin_pos positive
    rw [rsqrtNum_default default nonzero_a]
    exact rsqrtExact_delivers nonzero_a value.symm
  case recip_bound =>
    rintro _ _ ⟨-, kept⟩ rfl rfl
    obtain ⟨w, ⟨-, -, value⟩, bound⟩ := recipNum_bound float nonzero_a kept
    rw [value, Num.one_div_toRat_fin, abs_signed_sub, recipNum_default rfl nonzero_a]
    exact bound
  case rsqrt_bound =>
    rintro _ _ positive ⟨-, kept⟩ rfl rfl
    obtain ⟨rfl, operand⟩ := Num.toRat_fin_pos positive
    obtain ⟨w, number, bound⟩ := rsqrtNum_bound float nonzero_a kept
    have ⟨_, _, value⟩ := number
    rw [operand, value, if_neg Bool.false_ne_true, one_mul, rsqrtNum_default rfl nonzero_a]
    exact ⟨number.nonneg, bound⟩

end Sys2Proof.Machine
end

section
/-! PROOFS. The conversions (47_fpu_convert_move_branch.md R540 to R552): that they finish, and the values of CVT.S
and CVT.D. -/

namespace Sys2Proof.Machine

open Sys2Proof

variable {c : Config} {f : BitVec 32} {src dst : Fmt} {a : Word} {x : Num} {s : Bool} {m : Nat} {e : Int}

/-- `r` is the delivery of `v` with the sign `neg`, a zero included. -/
def DeliversSigned (c : Config) (f : BitVec 32) (dst : Fmt) (r : Word × Conds) (neg : Bool) (v : ℚ) : Prop :=
  ∃ mant exp, r = roundValue c f dst neg mant exp false ∧ (Num.fin neg mant exp).toRat = v

/-! ### From a floating-point format -/

theorem fpToFloat_numbers (ha : decodeNum src a = x) (nx : x.isNaN = false) :
    fpToFloat c f src dst a = roundNum c f dst x := by
  rw [fpToFloat, nanRule_numbers] <;> simp [ha, nx]

theorem fpToFloat_delivers (ha : decodeNum src a = .fin s m e) :
    DeliversSigned c f dst (fpToFloat c f src dst a) s (Num.fin s m e).toRat :=
  ⟨m, e, fpToFloat_numbers ha rfl, rfl⟩

/-! ### From a fixed-point format -/

/-- An integer is delivered in units of one. -/
theorem fpFromFixed_delivers :
    DeliversSigned c f dst (fpFromFixed c f src dst a) (decide (fixedValue src a < 0)) (fixedValue src a) := by
  refine ⟨_, _, rfl, (Num.toRat_natAbs fun _ => rfl).trans ?_⟩
  rw [zpow_zero, mul_one]

/-- Settles O49: a NaN, an infinity, a finite number, an integer; then the instructions, which all run the
operation of one operand. -/
theorem fpConversions : Obligations.FpConversions := by
  refine ⟨fun c f src dst a _ => ⟨fun _ => ⟨?signaling, ?quiet, ?infinity, ?finite⟩, ?word, ?longword⟩,
    ?instructions⟩
  case signaling => exact fun signals => nanRule_signaling (by simp [signals])
  case quiet => exact fun quiet default => nanRule_quiet default (by simp [quiet]) (by simp [quiet])
  case infinity => exact fun neg inf => fpToFloat_numbers inf rfl
  case finite =>
    intro finite
    obtain ⟨s, m, e, ha⟩ := Num.eq_fin_of_isFinite finite
    rw [ha, signBit_of_fin ha]
    exact fpToFloat_delivers ha
  case word => exact fpFromFixed_delivers
  case longword => exact fpFromFixed_delivers
  case instructions =>
    intro s fd fs
    and_intros <;> exact unaryFp_of_exec rfl

end Sys2Proof.Machine
end

section
/-! PROOFS. The formatted moves (47_fpu_convert_move_branch.md R560 to R564, 44_fpu_model.md R462): the register
read, source or destination, is marked with the format, then the destination is written. -/

namespace Sys2Proof.Machine

open Sys2Proof

variable {i : Instr} {s t : State} {w : Footprint} {op : FpOp} {fmt : Fmt} {fd fs src n m : RegNum} {v : Word}
  {site : DrawSite} {b : Bool} {cond : Prop}

/-! ### Reading and writing -/

theorem State.tag_setTag_of_ne (g : Tag) (apart : s.fprIndex m ≠ s.fprIndex n) :
    (s.setTag n g).tag m = s.tag m := by
  cases model : s.cfg.fprTags with
  | bits => rw [State.setTag_of_bits model]
  | strict => rw [State.tag_setTag_eq model, if_neg apart]

theorem Underway.storeFpr (h : Underway s t w) (fmt : Fmt) (v : Word) (regs : ∀ m ∈ s.fprRegs n, m ∈ w.fgrs)
    (tag : s.fprIndex n ∈ w.tags) : Underway s (t.storeFpr n fmt v) w where
  frame := by
    have cfg := h.frame.cfg
    exact h.frame.storeFpr fmt v (State.fprRegs_of_cfg cfg n ▸ regs) (State.fprIndex_of_cfg cfg n ▸ tag)
  npc := (State.storeFpr_npc ..).trans h.npc
  hiRd := (State.storeFpr_hiRd ..).trans h.hiRd
  loRd := (State.storeFpr_loRd ..).trans h.loRd

/-! ### The move -/

theorem State.moveFpr_claimed (holds : s.FprHolds src fmt v) (claimed : s.claimed op fmt v 0 0 = true) :
    s.moveFpr op fmt fd src site =
      .next ({ s with fcsr := setCause s.fcsr condE }.raise .floatingPoint) := by
  simp only [State.moveFpr, State.valueFpr_holds holds, if_pos claimed]

theorem State.moveFpr_written (holds : s.FprHolds src fmt v) (free : ¬s.claimed op fmt v 0 0 = true) :
    s.moveFpr op fmt fd src site = .next ((s.setTag src (.is fmt)).storeFpr fd fmt v).complete := by
  simp only [State.moveFpr, State.valueFpr_holds holds, if_neg free]

/-- What a formatted move may write (44_fpu_model.md R431, R432, R462). -/
def moveFootprint (s : State) (fd fs : RegNum) : Footprint :=
  { fgrs := s.fprRegs fd, tags := [fd, fs].map s.fprIndex }

/-- A formatted move of `v` ends with the exception of a claimed move (log 27), or completes to the effect
`post`. -/
def MoveEnds (i : Instr) (s : State) (op : FpOp) (fmt : Fmt) (v : Word) (fd fs : RegNum) (post : State → Prop) :
    Prop :=
  if s.claimed op fmt v 0 0 then ∃ f, FcsrTrapped s.fcsr f condE ∧ RaisesFp i s f
  else Completes i s (moveFootprint s fd fs) post

/-- The register `src` is moved to `fd`. Only the reading of `src` changes the tag of another FPR than
`fd`. -/
theorem moveEnds_of_moveFpr {post : State → Prop} (runs : exec i s = s.moveFpr op fmt fd src site)
    (holds : s.FprHolds src fmt v) (listed : src ∈ [fd, fs])
    (effect : ∀ t : State, t.FprResult fd fmt v →
      (∀ m, s.fprIndex m ≠ s.fprIndex fd → t.tag m = (s.setTag src (.is fmt)).tag m) → post t) :
    MoveEnds i s op fmt v fd fs post := by
  rw [MoveEnds]
  split
  · next claimed =>
    exact ⟨_, fcsrTrapped_setCause s.fcsr condE,
      raisesFp_of_exec (runs.trans (State.moveFpr_claimed holds claimed))⟩
  · next free =>
    have none_read : OperandsRead s s (moveFootprint s fd fs) fmt [] := .refl rfl
    have read := none_read.setTag (List.mem_map_of_mem listed)
    have written := read.underway.storeFpr fmt v (n := fd) (fun _ => id) List.mem_cons_self
    refine written.completes (runs.trans (State.moveFpr_written holds free))
      (effect _ (State.storeFpr_result ..) fun m apart => State.tag_storeFpr_of_ne ?_)
    rwa [State.fprIndex_of_cfg read.cfg, State.fprIndex_of_cfg read.cfg]

/-! ### The instructions -/

/-- A formatted move of `fs` to `fd` under a condition, as the statement says it. -/
def MovesFp (i : Instr) (s : State) (op : FpOp) (fmt : Fmt) (cond : Prop) (fd fs : RegNum) : Prop :=
  ∀ v, (cond → s.FprHolds fs fmt v) → (¬cond → s.FprHolds fd fmt v) →
    MoveEnds i s op fmt v fd fs fun t =>
      t.FprResult fd fmt v ∧ (s.fprIndex fs ≠ s.fprIndex fd →
        (cond → s.cfg.fprTags = .strict → t.tag fs = .is fmt) ∧
        (¬cond ∨ s.cfg.fprTags = .bits → t.tag fs = s.tag fs))

/-- The source is read if the condition holds, and is then marked; else the destination. -/
theorem movesFp_of_moveFprIf (usable : s.cfg.cu1 = true) (tests : b = true ↔ cond)
    (runs : exec i s = s.moveFprIf op b fmt fd fs) : MovesFp i s op fmt cond fd fs := by
  intro v holds_source holds_destination
  rw [State.moveFprIf, State.withCu1_usable usable] at runs
  by_cases taken : cond
  · rw [if_pos (tests.mpr taken)] at runs
    refine moveEnds_of_moveFpr runs (holds_source taken) (by simp) fun t result tags => ⟨result, fun apart => ?_⟩
    rw [tags fs apart]
    refine ⟨fun _ strict => State.tag_setTag strict _, fun kept => ?_⟩
    rw [State.setTag_of_bits (kept.resolve_left (not_not_intro taken))]
  · rw [if_neg (mt tests.mp taken)] at runs
    refine moveEnds_of_moveFpr runs (holds_destination taken) (by simp)
      fun t result tags => ⟨result, fun apart => ⟨fun holds => absurd holds taken, fun _ => ?_⟩⟩
    exact (tags fs apart).trans (State.tag_setTag_of_ne _ apart)

/-- Settles O52, by the condition each instruction tests; that of MOV always holds. -/
theorem fpMoves : Obligations.FpMoves := by
  intro s fd fs rt cc usable moves
  have always : true = true ↔ True := by simp
  have clear : (!s.fcc cc) = true ↔ s.fcc cc = false := by simp
  have set : s.fcc cc = true ↔ s.fcc cc = true := Iff.rfl
  have nonzero : (s.x .rt rt != 0) = true ↔ s.x .rt rt ≠ 0 := bne_iff_ne
  have zero : (s.x .rt rt == 0) = true ↔ s.x .rt rt = 0 := beq_iff_eq
  exact ⟨movesFp_of_moveFprIf usable always rfl, movesFp_of_moveFprIf usable clear rfl,
    movesFp_of_moveFprIf usable set rfl, movesFp_of_moveFprIf usable nonzero rfl,
    movesFp_of_moveFprIf usable zero rfl, movesFp_of_moveFprIf usable always rfl,
    movesFp_of_moveFprIf usable clear rfl, movesFp_of_moveFprIf usable set rfl,
    movesFp_of_moveFprIf usable nonzero rfl, movesFp_of_moveFprIf usable zero rfl⟩

end Sys2Proof.Machine
end

section
/-! PROOFS. Exceptions are precise (60_exceptions.md R620): no update and no ending takes a trap, so a state
with a trap record comes from an exception, and that leaves the state as it was. -/

namespace Sys2Proof.Machine

open Sys2Proof

variable {i : Instr} {s t : State} {r : TrapRecord}

theorem Update.trap_eq (h : Update i s t) : t.trap = s.trap := by
  cases h with
  | gpr => exact State.putX_trap ..
  | tag => exact State.setTag_trap ..
  | hi | lo | unlink | link | fgr | fcsr | byte | undefByte => rfl

theorem Updates.trap_eq (h : Updates i s t) : t.trap = s.trap :=
  h.keeps (P := fun v => v.trap = s.trap) (fun _ _ update => update.trap_eq.trans) rfl

theorem Ends.trap_eq (h : Ends i s t) : t.trap = s.trap := by
  cases h with
  | likely => exact State.jumpLikely_trap ..
  | complete | readHi | readLo | jump => rfl

/-- A Floating-Point exception is as precise as the others: it leaves a new FCSR, and the trap record does
not speak of the FCSR (60_exceptions.md R607). -/
theorem State.raise_withFcsr_trapped (s : State) (f : BitVec 32) (e : Exc) :
    Trapped s ({ s with fcsr := f }.raise e) e := by
  constructor <;> rfl

/-- Settles O10, from what any instruction's effect may be: the kind in the record is that of the exception
that was taken. -/
theorem exceptionsArePrecise : Obligations.ExceptionsArePrecise := by
  intro i s t r running executed trapped
  cases exec_effect executed with
  | raised e =>
    cases trapped
    exact ⟨s.raise_trapped e, fun _ => rfl⟩
  | raisedFp f =>
    cases trapped
    exact ⟨s.raise_withFcsr_trapped f _, fun other => absurd rfl other⟩
  | ended updates ends =>
    have untrapped : t.trap = none := (ends.trap_eq.trans updates.trap_eq).trans running
    cases untrapped.symm.trans trapped

end Sys2Proof.Machine
end

section
/-! PROOFS. What a step does, by the answer at each stage of 70_reset_and_hazards.md R681: the trap record, the
interrupt oracle, the fetch, the decoder. -/

namespace Sys2Proof.Machine

open Sys2Proof

variable {i : Instr} {s : State} {as : List Nat} {bs : List Byte} {e : Exc} {r : Result}

/-! ### A trapped machine -/

theorem step_of_trapped (trapped : s.trap ≠ none) : step s = s.handle :=
  if_pos (Option.isSome_iff_ne_none.mpr trapped)

theorem State.handle_of_default (handler : s.cfg.handler = .default) : s.handle = .fault .trapped := by
  rw [State.handle, handler]

/-- A Handler leaves the machine trapped or continues it. -/
theorem State.handle_trapped_or_next (s : State) : s.handle = .fault .trapped ∨ ∃ t, s.handle = .next t := by
  unfold State.handle
  split
  · exact .inl rfl
  · split
    · exact .inl rfl
    · dsimp only
      split
      · exact .inr ⟨_, rfl⟩
      · exact .inl rfl

/-! ### The stages of a running machine -/

theorem step_of_interrupted (running : s.trap = none) (delivered : s.interrupted = true) :
    step s = .next (s.popInterrupt.raise .interrupt) := by
  simp [step, running, delivered]

theorem step_of_fetch_error (running : s.trap = none) (quiet : s.interrupted = false)
    (stopped : s.popInterrupt.fetch = .error r) : step s = r := by
  simp [step, running, quiet, stopped]

theorem step_of_instruction (running : s.trap = none) (quiet : s.interrupted = false)
    (fetched : s.popInterrupt.fetch = .ok bs) (decoded : decodeBytes s.bigEndianCpu bs = .ok i) :
    step s = exec i s.popInterrupt := by
  simp [step, running, quiet, fetched, decoded]

/-! ### Fetching -/

theorem State.fetch_misaligned (misaligned : s.pc.toNat % 4 ≠ 0) :
    s.fetch = .error (.next (s.raise (.addressError s.pc .fetch))) := by
  simp [State.fetch, aligned_eq_false misaligned]

theorem State.fetch_unlocated (aligned_pc : s.pc.toNat % 4 = 0)
    (fails : s.locate s.pc s.pc 4 .fetch = .error e) : s.fetch = .error (.next (s.raise e)) := by
  simp [State.fetch, (aligned_iff s.pc 4).mpr aligned_pc, fails]

theorem State.fetch_stored (aligned_pc : s.pc.toNat % 4 = 0)
    (located : s.locate s.pc s.pc 4 .fetch = .ok as) (stored : ∃ a ∈ as, a ∈ s.stored) :
    s.fetch = .error (.refused .storedCode) := by
  have hit : as.any s.stored.contains = true := by simpa using stored
  simp [State.fetch, (aligned_iff s.pc 4).mpr aligned_pc, located, hit]

/-! ### The statements -/

/-- Settles O4: the four bytes are fetched and decode to the instruction. -/
theorem stepRunsDecodedInstruction : Obligations.StepRunsDecodedInstruction := by
  intro s as i running quiet aligned_pc located unstored decoded
  have fetched : s.popInterrupt.fetch = .ok (as.map s.readByte) :=
    State.fetch_of_located (s := s.popInterrupt) aligned_pc located unstored
  exact step_of_instruction running quiet fetched decoded

/-- A step that takes an exception leaves what R620 says of it, the oracle having answered. -/
theorem step_raises (raises : step s = .next (s.popInterrupt.raise e)) :
    ∃ t, step s = .next t ∧ Trapped s.popInterrupt t e ∧ t.fcsr = s.fcsr :=
  ⟨_, raises, State.raise_trapped .., rfl⟩

/-- Settles O5: the Handler, then the stages of a running machine in their order. -/
theorem stepStopsBeforeExecution : Obligations.StepStopsBeforeExecution := by
  refine ⟨fun s trapped handler => ?default, fun s trapped _ => ?part,
    fun s running delivered => step_raises (step_of_interrupted running delivered),
    fun s running quiet misaligned => ?misaligned,
    fun s e running quiet aligned_pc fails => ?unlocated,
    fun s as running quiet aligned_pc located stored => ?stored⟩
  case default => exact (step_of_trapped trapped).trans (State.handle_of_default handler)
  case part =>
    rw [step_of_trapped trapped]
    refine s.handle_trapped_or_next.imp_right fun ⟨t, handled⟩ => ?_
    obtain ⟨-, running, cfg, pending, legal⟩ := State.handle_next handled
    exact ⟨t, handled, running, State.inv_of_legal legal running, cfg, pending⟩
  case misaligned =>
    exact step_raises (step_of_fetch_error running quiet
      (State.fetch_misaligned (s := s.popInterrupt) misaligned))
  case unlocated =>
    exact step_raises (step_of_fetch_error running quiet
      (State.fetch_unlocated (s := s.popInterrupt) aligned_pc fails))
  case stored =>
    exact step_of_fetch_error running quiet
      (State.fetch_stored (s := s.popInterrupt) aligned_pc located stored)

end Sys2Proof.Machine
end

section
/-! PROOFS. Coprocessor 1's unit (60_exceptions.md R606, 43_cpu_misc.md R402): every instruction of its classes
looks at it first. -/

namespace Sys2Proof.Machine

open Sys2Proof

variable {i : Instr} {s : State}

/-- The instructions that use coprocessor 1 are MOVF, MOVT and those with one of its opcodes. -/
theorem Instr.usesCop1_cases (uses : i.usesCop1 = true) :
    (∃ rd rs cc, i = .movf rd rs cc ∨ i = .movt rd rs cc) ∨
      [0x11#6, 0x13#6, 0x31#6, 0x35#6, 0x39#6, 0x3d#6].contains (Laws.Opcode.primary i) = true := by
  unfold Instr.usesCop1 at uses
  split at uses
  · exact .inl ⟨_, _, _, .inl rfl⟩
  · exact .inl ⟨_, _, _, .inr rfl⟩
  · rw [opF_encode] at uses
    exact .inr uses

theorem exec_cop1_unusable (uses : i.usesCop1 = true) (cu1 : s.cfg.cu1 = false) :
    exec i s = .next (s.raise (.coprocessorUnusable 1)) := by
  rcases Instr.usesCop1_cases uses with ⟨rd, rs, cc, rfl | rfl⟩ | opcode
  · exact State.withCu1_unusable cu1
  · exact State.withCu1_unusable cu1
  · cases i with
    | lwc1 | ldc1 | swc1 | sdc1 | lwxc1 | ldxc1 | swxc1 | sdxc1 | prefx
    | mfc1 | dmfc1 | cfc1 | mtc1 | dmtc1 | ctc1
    | bc1f | bc1t | bc1fl | bc1tl
    | addS | addD | subS | subD | mulS | mulD | divS | divD
    | maddS | maddD | msubS | msubD | nmaddS | nmaddD | nmsubS | nmsubD
    | sqrtS | sqrtD | absS | absD | negS | negD | recipS | recipD | rsqrtS | rsqrtD
    | roundLS | roundLD | truncLS | truncLD | ceilLS | ceilLD | floorLS | floorLD
    | roundWS | roundWD | truncWS | truncWD | ceilWS | ceilWD | floorWS | floorWD
    | cvtSD | cvtSW | cvtSL | cvtDS | cvtDW | cvtDL | cvtWS | cvtWD | cvtLS | cvtLD
    | cFS | cUnS | cEqS | cUeqS | cOltS | cUltS | cOleS | cUleS | cSfS | cNgleS | cSeqS | cNglS | cLtS
    | cNgeS | cLeS | cNgtS | cFD | cUnD | cEqD | cUeqD | cOltD | cUltD | cOleD | cUleD | cSfD | cNgleD
    | cSeqD | cNglD | cLtD | cNgeD | cLeD | cNgtD
    | movS | movD | movfS | movfD | movtS | movtD | movnS | movnD | movzS | movzD =>
      exact State.withCu1_unusable cu1
    | _ => cases opcode

/-- Settles O14: the exception is all these instructions do while the unit is unusable. -/
theorem coprocessor1Unusable : Obligations.Coprocessor1Unusable :=
  fun _ _ uses cu1 => raises_of_exec (exec_cop1_unusable uses cu1)

end Sys2Proof.Machine
end

section
/-! PROOFS. Reset (70_reset_and_hazards.md R650): what it leaves, and that this has the invariant. -/

namespace Sys2Proof.Machine

open Sys2Proof

theorem State.resetWith_tag (cfg : Config) (n : RegNum) : (State.resetWith cfg).tag n = .unknown := by
  unfold State.tag State.resetWith
  exact Vector.getElem_replicate _

/-- What holds of a cell of reset, which is defined and 0, holds of every register. -/
theorem forall_getElem_replicate {P : Reg → Prop} (cell : P {}) (n : Fin 32) :
    P (Vector.replicate 32 {})[n] := by
  rwa [Fin.getElem_fin, Vector.getElem_replicate]

theorem State.resetWith_inv (cfg : Config) : (State.resetWith cfg).Inv where
  mem := rfl
  memRange := nofun
  stored := rfl
  storedRange := nofun
  undefMem := rfl
  undefStored := nofun
  x0 := Vector.getElem_replicate _
  fcsr := BitVec.zero_and
  slot _ := rfl
  trapped := nofun
  link := nofun
  clean := ⟨forall_getElem_replicate BitVec.zero_and, BitVec.zero_and, BitVec.zero_and,
    forall_getElem_replicate BitVec.zero_and⟩
  narrow _ := forall_getElem_replicate (P := Reg.narrow) BitVec.zero_and
  oddTags _ _ _ := Vector.getElem_replicate _

/-- Settles O2: State.reset is reset with the default parameters. -/
theorem resetInvariant : Obligations.ResetInvariant :=
  ⟨State.resetWith_inv _, State.resetWith_inv⟩

/-- Settles O1: the fields of the reset state, and the parameters of `Config.default`. -/
theorem resetState : Obligations.ResetState := by
  refine ⟨fun cfg => ⟨_, rfl, rfl, rfl, rfl, rfl, rfl, rfl, rfl, rfl, rfl, State.resetWith_tag cfg,
    BitVec.zero_and, fun _ => State.x_zero _⟩, .default, rfl, ?_, rfl, rfl, rfl, rfl⟩
  exact ⟨by decide, by decide, by decide⟩

end Sys2Proof.Machine
end
